-- ==== Sys2Proof/Word.lean ====
section
/-! DEFINITION. The words, bytes and fixed-size sequences of the core (00_scope.md R6, R7, R8, R9). -/

namespace Sys2Proof

/-- A state word: 32 bits, unsigned (R6 `WORD_W`). `+` on it is addition modulo 2^32 (R8). -/
abbrev Word := BitVec 32

/-- A byte (R9). -/
abbrev Byte := BitVec 8

/-- A 16-word state, indices 0..15 (R6 `STATE_WORDS`, R20). -/
abbrev Words16 := Vector Word 16

/-- A 64-byte keystream block, indices 0..63 (R6 `BLOCK_BYTES`, R23). -/
abbrev Block64 := Vector Byte 64

/-- The all-zero state. -/
def zeroWords : Words16 := Vector.replicate 16 0

/-- The all-zero block. -/
def zeroBlock : Block64 := Vector.replicate 64 0

/-- The four words of a quarter-round group, in the order `(a, b, c, d)` (R103). -/
structure Quad where
  a : Word
  b : Word
  c : Word
  d : Word
deriving DecidableEq, Repr

end Sys2Proof
end

