-- ==== Sys2Proof/Config.lean ====
section
/-! DEFINITION. What an implementation fixes (00_scope.md R6) and the values the spec leaves free. -/

namespace Sys2Proof

/-- The OPEN parameters of an implementation (R6). `LATENCY` is not here: the model is untimed (R260; log entry 2). -/
structure Config where
  /-- `HAS_TEST_HOOK` (R6, decision D26): whether the part has the SETCTR command. -/
  hasTestHook : Bool
deriving DecidableEq, Repr

/-- The default implementation: `HAS_TEST_HOOK = 0` (R6). -/
def Config.default : Config := { hasTestHook := false }

/-- A FREE VALUE: lane `lane` of the `draw`-th value the spec leaves open. It has no body, so nothing can be proved
of it. It stands for the working state between operations (10_state.md R37, 93 I8), for data outputs that are not
meaningful (42 R126, 44 R166, 93 I9) and for a keystream block the spec gives no value (log entry 4). -/
opaque Config.freeWord (draw lane : Nat) : Word

end Sys2Proof
end

