-- ==== Sys2Proof/Syntax.lean ====
section
/-! DEFINITION. The operations of the core: one constructor per row of opcode_table.json. -/

namespace Sys2Proof

/-- An operation. The first six are commands with a command word (30_encoding.md R73): of their operands only PBYTE's
byte stands in the word, the others are read from the ports sampled at acceptance (R75). The other eight are the
inner modules' operations, format PORT, with no word (R84); their operands are the module's data inputs. -/
inductive Instr where
  /-- NOP (R181). -/
  | nop
  /-- INIT (R182): operands `key_in`, `key_len`, `nonce_in`, `nonce_len`, `rounds_in`, from the ports. -/
  | init
  /-- PBYTE (R184): `DATA = cmd[15:8]`. -/
  | pbyte (data : Byte)
  /-- RESET (R187), the stream reset. -/
  | reset
  /-- WIPE (R188). -/
  | wipe
  /-- SETCTR (R189): operand `ctr_in`, from the port. -/
  | setctr
  /-- MIX (R100): the word mixer. -/
  | mix (b c : Word) (rot : BitVec 5)
  /-- QROUND (R103): the quarter-round of `(a, b, c, d)`. -/
  | qround (qa qb qc qd : Word)
  /-- COLROUND (R120). -/
  | colround (x : Words16)
  /-- ROWROUND (R121). -/
  | rowround (x : Words16)
  /-- DROUND (R122). -/
  | dround (x : Words16)
  /-- PERMUTE (R123): `pe_state_in`, `pe_rounds`. -/
  | permute (stateIn : Words16) (rounds : Word)
  /-- SETUP (R140): the key and nonce as the ports carry them, with their lengths. -/
  | setup (keyIn : BitVec 256) (keyLen : Byte) (nonceIn : BitVec 64) (nonceLen : Byte)
  /-- KSGEN (R160): `kg_state_in`, `kg_rounds`. -/
  | ksgen (stateIn : Words16) (rounds : Word)
deriving DecidableEq, Repr

end Sys2Proof
end

