-- ==== Sys2Proof/WellFormed.lean ====
section
/-! DEFINITION. Where an operation may be given (30_encoding.md R73, R84). Every field of `Instr` has exactly its port's
width, so what can be ill-formed is the place: a PORT operation has no command word, a command has no module port of its
own, and a part without the test hook has no SETCTR. -/

namespace Sys2Proof

/-- The operation has a command word (R73): it is well-formed on the command port. -/
def Instr.isCommand : Instr → Bool
  | .nop => true
  | .init => true
  | .pbyte _ => true
  | .reset => true
  | .wipe => true
  | .setctr => true
  | .mix _ _ _ => false
  | .qround _ _ _ _ => false
  | .colround _ => false
  | .rowround _ => false
  | .dround _ => false
  | .permute _ _ => false
  | .setup _ _ _ _ => false
  | .ksgen _ _ => false

/-- The operation is a PORT operation (R84): it is well-formed at an inner module's ports. -/
def Instr.isPort (i : Instr) : Bool := !i.isCommand

/-- The operation exists on a part (R6, R73): SETCTR only where `HAS_TEST_HOOK = 1`. -/
def Instr.onPart (c : Config) (i : Instr) : Bool := i != .setctr || c.hasTestHook

end Sys2Proof
end

