-- ==== Sys2Proof/Decode.lean ====
section
/-! DEFINITION. The command word (30_encoding.md R72 to R74, R82): the decoder, total on every word, and the encoder. -/

namespace Sys2Proof

/-- Why a command word is illegal (R74). Whichever it is, the command completes with `IllegalCommand`. -/
inductive Illegal where
  /-- `OP` is one of 0x6 .. 0xF (R73). -/
  | reservedOpcode
  /-- One of the bits [7:4], [31:16] is not 0 (R72). -/
  | reservedBits
  /-- `DATA` is not 0 with an opcode other than PBYTE (R72). -/
  | dataField
deriving DecidableEq, Repr

/-- What the decoder answers. -/
inductive Decoded where
  | instr (i : Instr)
  | illegal (why : Illegal)
deriving DecidableEq, Repr

/-- `OP = cmd[3:0]` (R72). -/
def opField (w : BitVec 32) : BitVec 4 := w.extractLsb' 0 4

/-- `DATA = cmd[15:8]` (R72). -/
def dataField (w : BitVec 32) : Byte := w.extractLsb' 8 8

/-- The reserved bits [7:4] and [31:16] are all 0 (R72). -/
def reservedZero (w : BitVec 32) : Bool := w &&& 0xFFFF00F0 == 0

/-- Which part of R74 makes a word that matches no row illegal. DESIGN CHOICE (log entry 15): of a word that falls under two
parts, the first in the order of R74 is named. -/
def illegalReason (w : BitVec 32) : Illegal :=
  if 6 ≤ (opField w).toNat then .reservedOpcode
  else if reservedZero w then .dataField
  else .reservedBits

/-- One row of the opcode map (R73): the word is the row's when `w & mask = match`. -/
structure CmdRow where
  matchBits : BitVec 32
  mask : BitVec 32
  /-- The operation, given the word's `DATA` field. -/
  op : Byte → Instr

/-- The row's test (R73). -/
def CmdRow.hits (r : CmdRow) (w : BitVec 32) : Bool := w &&& r.mask == r.matchBits

/-- The opcode map, in the order of R73. -/
def cmdRows : List CmdRow :=
  [ { matchBits := 0x00000000, mask := 0xFFFFFFFF, op := fun _ => .nop },
    { matchBits := 0x00000001, mask := 0xFFFFFFFF, op := fun _ => .init },
    { matchBits := 0x00000002, mask := 0xFFFF00FF, op := fun d => .pbyte d },
    { matchBits := 0x00000003, mask := 0xFFFFFFFF, op := fun _ => .reset },
    { matchBits := 0x00000004, mask := 0xFFFFFFFF, op := fun _ => .wipe },
    { matchBits := 0x00000005, mask := 0xFFFFFFFF, op := fun _ => .setctr } ]

/-- The decoder: the first row of R73 that hits, and otherwise illegal (R74). SETCTR's word decodes on every part; a
part without the hook answers it with `IllegalCommand` (R189, R194; log entry 8). -/
def decode (w : BitVec 32) : Decoded :=
  match cmdRows.find? (fun r => r.hits w) with
  | some r => .instr (r.op (dataField w))
  | none => .illegal (illegalReason w)

/-- The encoder (R73, R82): the command word of a command, none for a PORT operation (R84). -/
def encode : Instr → Option (BitVec 32)
  | .nop => some 0x00000000
  | .init => some 0x00000001
  | .pbyte d => some (0x00000002 ||| (d.setWidth 32 <<< 8))
  | .reset => some 0x00000003
  | .wipe => some 0x00000004
  | .setctr => some 0x00000005
  | .mix _ _ _ => none
  | .qround _ _ _ _ => none
  | .colround _ => none
  | .rowround _ => none
  | .dround _ => none
  | .permute _ _ => none
  | .setup _ _ _ _ => none
  | .ksgen _ _ => none

/-- The instruction of a decoder's answer. -/
def Decoded.toOption : Decoded → Option Instr
  | .instr i => some i
  | .illegal _ => none

/-- The value of the low `nbits` bits of `w`, as the opcode table numbers them. Every command is one 32-bit word, so bit
0 is the word's least significant bit (R7, R72). -/
def tableWord (nbits w : Nat) : Nat := w % 2 ^ nbits

/-- What the decoder reads from an instruction whose bits are `w`. A value that does not fit in 32 bits is no command
word. The PORT rows have no word (R84), so no word decodes to one of them. -/
def decodeTableWord (nbits w : Nat) : Option Instr :=
  if tableWord nbits w < 4294967296 then (decode (BitVec.ofNat 32 (tableWord nbits w))).toOption else none

end Sys2Proof
end

