-- ==== Sys2Proof/Machine/State.lean ====
section
/-! DEFINITION. The state of the core and its value after the hardware reset (10_state.md; 42 R126; 44 R166; 70 R250). -/

namespace Sys2Proof.Machine

/-- The error kinds of R77, in the order of their codes 0 .. 7. The 3-bit error registers hold one of them. -/
inductive ErrKind where
  /-- Code 0: no error. -/
  | ok
  /-- Code 1: `key_len` is not 16 and not 32 (R141). -/
  | invalidKeyLength
  /-- Code 2: `nonce_len` is not 8 (R142). -/
  | invalidNonceLength
  /-- Code 3: the round count is 0 or odd (R123, R161). -/
  | invalidRoundCount
  /-- Code 4: reserved, never produced (R228). -/
  | malformedState
  /-- Code 5: the block counter overflowed, or the session is exhausted (R185, R186). -/
  | nonceLimitExceeded
  /-- Code 6: the command needs a session and there is none (R227). -/
  | noSession
  /-- Code 7: the command word is illegal (R226). -/
  | illegalCommand
deriving DecidableEq, Repr

/-- The result of a sub-block function: `Ok(v)` or `Err(E)` (R11). -/
inductive Res (α : Type) where
  | ok (v : α)
  | err (e : ErrKind)
deriving DecidableEq, Repr

/-- The operand ports of the top level (R70). -/
structure Operands where
  /-- `key_in`, 256 bits, byte `k` at `[8k+7:8k]`. -/
  keyIn : BitVec 256
  /-- `key_len`. -/
  keyLen : Byte
  /-- `nonce_in`, 64 bits, byte `k` at `[8k+7:8k]`. -/
  nonceIn : BitVec 64
  /-- `nonce_len`. -/
  nonceLen : Byte
  /-- `rounds_in`. -/
  roundsIn : Word
  /-- `ctr_in`. -/
  ctrIn : BitVec 64
deriving DecidableEq, Repr

/-- All operand ports at 0. -/
def Operands.zero : Operands :=
  { keyIn := 0, keyLen := 0, nonceIn := 0, nonceLen := 0, roundsIn := 0, ctrIn := 0 }

/-- The command word and the operands, as sampled at the accepting edge and copied inside the core (R256). -/
structure Request where
  cmd : BitVec 32
  ops : Operands
deriving DecidableEq, Repr

/-- Nothing sampled. -/
def Request.zero : Request := { cmd := 0, ops := Operands.zero }

/-- A permutation engine: its output ports (R126) and its working state (R37). -/
structure Engine where
  /-- `pe_busy`. -/
  busy : Bool
  /-- `pe_done`: 1 for the one cycle in which an operation has ended. -/
  done : Bool
  /-- `pe_err`, held between done pulses (log entry 14). -/
  err : ErrKind
  /-- `pe_state_out`. -/
  stateOut : Words16
  /-- The working register `W[0..15]`; while an operation is in progress it holds the sampled state. -/
  W : Words16
  /-- The copy of the sampled round count. -/
  rnd : Word
  /-- The iteration count, a free value from the first start on (log entry 4). -/
  iter : Word
deriving DecidableEq, Repr

/-- An engine after the hardware reset (R38, R250). -/
def Engine.zero : Engine :=
  { busy := false, done := false, err := .ok, stateOut := zeroWords, W := zeroWords, rnd := 0, iter := 0 }

/-- A keystream generator: its output ports (R166), the copy of its input state (R37) and the engine it instantiates. -/
structure Generator where
  /-- `kg_busy`. -/
  busy : Bool
  /-- `kg_done`. -/
  done : Bool
  /-- `kg_err`, held between done pulses (log entry 14). -/
  err : ErrKind
  /-- `kg_block`. -/
  block : Block64
  /-- The copy of the input state, kept for the add-back (R37, R163). -/
  x : Words16
  /-- Its permutation engine. -/
  pe : Engine
deriving DecidableEq, Repr

/-- A generator after the hardware reset (R38, R250). -/
def Generator.zero : Generator :=
  { busy := false, done := false, err := .ok, block := zeroBlock, x := zeroWords, pe := Engine.zero }

/-- The inner modules at their own ports (R84, R104, R126, R166). `mix`, `z`, `y` and `setup` are what the last use of
each combinational function sampled (R104); they are the model's own observation, not registers (log entry 6). -/
structure Bench where
  /-- Output `mix` of the word mixer (R100, R104). -/
  mix : Word
  /-- Outputs `za`, `zb`, `zc`, `zd` (R104). -/
  z : Quad
  /-- The result of COLROUND, ROWROUND or DROUND (R120 to R122). -/
  y : Words16
  /-- The result of SETUP (R140). -/
  setup : Res Words16
  /-- A permutation engine (R126). -/
  pe : Engine
  /-- A keystream generator (R166). -/
  kg : Generator
deriving DecidableEq, Repr

/-- The inner modules after the hardware reset; the combinational outputs are those of all-zero inputs (log entry 6). -/
def Bench.zero : Bench :=
  { mix := 0, z := { a := 0, b := 0, c := 0, d := 0 }, y := zeroWords, setup := .err .invalidKeyLength,
    pe := Engine.zero, kg := Generator.zero }

/-- What the host does next (R263). The list of them in State is the host's side of a run (R262; log entry 3). -/
inductive HostMove where
  /-- The operand ports are driven with new values; no clock edge passes. -/
  | drive (p : Operands)
  /-- A command word is presented and held until accepted, and its completion awaited: one transaction (R12, R260). -/
  | issue (w : BitVec 32)
  /-- A command word is presented and accepted: the accepting edge alone (R253). -/
  | accept (w : BitVec 32)
  /-- The operation is performed: a command as its command word, a PORT operation at its module's ports (R84). -/
  | op (i : Instr)
  /-- The start edge of the permutation engine at its own ports: `pe_start = 1` (R126). -/
  | peStart (stateIn : Words16) (rounds : Word)
  /-- The start edge of the keystream generator at its own ports: `kg_start = 1` (R166). -/
  | kgStart (stateIn : Words16) (rounds : Word)
  /-- Edges pass until everything in flight has ended (R254, R260). -/
  | wait
  /-- One edge at which nothing is presented and nothing ends. -/
  | idle
  /-- One edge with `rst = 1` (R250). -/
  | rst
deriving DecidableEq, Repr

/-- The state. Registers carry the names of 10_state.md. -/
structure State where
  /-- The implementation's parameters (R6); no step changes them. -/
  cfg : Config
  /-- The session state `S[0..15]` (R20 to R22). -/
  S : Words16
  /-- The keystream block buffer `KS[0..63]` (R23). -/
  KS : Block64
  /-- The cursor (R24). -/
  CUR : BitVec 6
  /-- The round register (R25). -/
  RND : Word
  /-- 1 while a session exists (R26). -/
  VALID : Bool
  /-- 1 when the session is exhausted (R27). -/
  EXH : Bool
  /-- 1 from acceptance to completion (R28). -/
  BUSY : Bool
  /-- The error of the most recently completed command (R29). -/
  LAST_ERR : ErrKind
  /-- The output byte (R30). -/
  RSP_DATA : Byte
  /-- 1 when `RSP_DATA` is a valid output byte (R30). -/
  RSP_DV : Bool
  /-- The response's error (R30). -/
  RSP_ERR : ErrKind
  /-- The output `rsp_valid`: 1 for the one cycle after a completion (R70, R254). -/
  rspValid : Bool
  /-- The copy of the command and its operands made at acceptance (R256). -/
  latch : Request
  /-- The integrated keystream generator with its permutation engine (R37, R166). -/
  kg : Generator
  /-- The inner modules at their own ports (R84). -/
  bench : Bench
  /-- The operand ports as the host drives them now (R70); an input, not a register. -/
  pins : Operands
  /-- What the host does next, oldest first (R262, R263); an input, not a register. -/
  host : List HostMove
  /-- How many free values have been drawn (log entry 4); the model's own field. -/
  draws : Nat
deriving DecidableEq, Repr

/-- No step of this machine faults: "An error is an answer the core gives in its response, not a trap" (60, preamble;
R224, R230), so there is no reason to name. -/
inductive Fault where
deriving DecidableEq, Repr

/-- Why a step has no meaning. -/
inductive Refusal where
  /-- An operation the model gives no meaning; raised by an arm of `exec`, and no arm raises it. Safe: nothing is
  provable of what it would do. -/
  | notModelled (mnemonic : String)
deriving DecidableEq, Repr

/-- The state after the hardware reset of a part (R38, R250, R251), with an idle host (log entry 3). -/
def State.resetWith (c : Config) : State :=
  { cfg := c
    S := zeroWords
    KS := zeroBlock
    CUR := 0
    RND := 0
    VALID := false
    EXH := false
    BUSY := false
    LAST_ERR := .ok
    RSP_DATA := 0
    RSP_DV := false
    RSP_ERR := .ok
    rspValid := false
    latch := Request.zero
    kg := Generator.zero
    bench := Bench.zero
    pins := Operands.zero
    host := []
    draws := 0 }

/-- The state after the hardware reset of the default part, `HAS_TEST_HOOK = 0` (R6, R38). -/
def State.reset : State := State.resetWith Config.default

end Sys2Proof.Machine
end

