-- ==== Sys2Proof/Machine/Operands.lean ====
section
/-! DEFINITION. Byte order and operands: little-endian conversions (00 R9; 20 R50 to R53), port bytes (30 R75), the
counter's halves (10 R22), bus layouts (30 R76) and lanes of free values. -/

namespace Sys2Proof.Machine

/-- `le32(b0, b1, b2, b3) = (b3, b2, b1, b0)` (R9). -/
def le32 (b0 b1 b2 b3 : Byte) : Word := b3 ++ b2 ++ b1 ++ b0

/-- Byte `m` of `bytes_le32(w)`: bits `[8m+7:8m]` (R9). -/
def byteLE (w : Word) (m : Nat) : Byte := w.extractLsb' (8 * m) 8

/-- Byte `k` of a byte port: bits `[8k+7:8k]` (R53, R75). -/
def portByte {n : Nat} (port : BitVec n) (k : Nat) : Byte := port.extractLsb' (8 * k) 8

/-- The little-endian word of bytes `k .. k+3` of a byte port (R144 to R146). -/
def portWord {n : Nat} (port : BitVec n) (k : Nat) : Word :=
  le32 (portByte port k) (portByte port (k + 1)) (portByte port (k + 2)) (portByte port (k + 3))

/-- The block counter `CTR = (S[9], S[8])` (R22). -/
def ctrOf (S : Words16) : BitVec 64 := S[9] ++ S[8]

/-- `S[8] <- c[31:0]; S[9] <- c[63:32]` (R75, R189). -/
def setCtr (S : Words16) (c : BitVec 64) : Words16 :=
  (S.set 8 (c.extractLsb' 0 32)).set 9 (c.extractLsb' 32 32)

/-- The number whose base-`2^w` digits, least significant first, are the listed vectors. -/
def packDigits {w : Nat} : List (BitVec w) → Nat
  | [] => 0
  | d :: ds => d.toNat + 2 ^ w * packDigits ds

/-- The 512-bit bus of a 16-word state: word `i` at `[32i+31:32i]` (R76). -/
def wordsBus (x : Words16) : BitVec 512 := BitVec.ofNat 512 (packDigits x.toList)

/-- The 512-bit bus of a 64-byte block: byte `j` at `[8j+7:8j]` (R76). -/
def blockBus (b : Block64) : BitVec 512 := BitVec.ofNat 512 (packDigits b.toList)

/-- Sixteen free words: lanes `lane .. lane+15` of a draw (log entry 4). -/
def freeWords (draw lane : Nat) : Words16 := Vector.ofFn fun i : Fin 16 => Config.freeWord draw (lane + i.val)

/-- Sixty-four free bytes: lanes `lane .. lane+63` of a draw (log entry 4). -/
def freeBlock (draw lane : Nat) : Block64 :=
  Vector.ofFn fun j : Fin 64 => (Config.freeWord draw (lane + j.val)).setWidth 8

end Sys2Proof.Machine
end

