-- ==== Sys2Proof/Machine/Rounds.lean ====
section
/-! DEFINITION. The word functions of salsa20_quarter_round and salsa20_permutation_engine (41 R100 to R103; 42 R120 to
R125). -/

namespace Sys2Proof.Machine

/-- `rotl32(x, n)`: circular left rotation by `n mod 32` positions (R8). -/
def rotl32 (x : Word) (n : Nat) : Word := x.rotateLeft n

/-- `mix(b, c, rot) = rotl32(b + c, rot)` (R100). -/
def mix (b c : Word) (rot : BitVec 5) : Word := rotl32 (b + c) rot.toNat

/-- The quarter-round: four mix steps in sequence, amounts 7, 9, 13, 18 (R103). -/
def qround (a b c d : Word) : Quad :=
  let b' := b ^^^ mix a d 7
  let c' := c ^^^ mix b' a 9
  let d' := d ^^^ mix c' b' 13
  let a' := a ^^^ mix d' c' 18
  { a := a', b := b', c := c', d := d' }

/-- The column round: columns (0,4,8,12), (5,9,13,1), (10,14,2,6), (15,3,7,11) (R120). -/
def colround (x : Words16) : Words16 :=
  let p := qround x[0] x[4] x[8] x[12]
  let q := qround x[5] x[9] x[13] x[1]
  let r := qround x[10] x[14] x[2] x[6]
  let t := qround x[15] x[3] x[7] x[11]
  #v[p.a, q.d, r.c, t.b,
     p.b, q.a, r.d, t.c,
     p.c, q.b, r.a, t.d,
     p.d, q.c, r.b, t.a]

/-- The row round: rows (0,1,2,3), (5,6,7,4), (10,11,8,9), (15,12,13,14) (R121). -/
def rowround (x : Words16) : Words16 :=
  let p := qround x[0] x[1] x[2] x[3]
  let q := qround x[5] x[6] x[7] x[4]
  let r := qround x[10] x[11] x[8] x[9]
  let t := qround x[15] x[12] x[13] x[14]
  #v[p.a, p.b, p.c, p.d,
     q.d, q.a, q.b, q.c,
     r.c, r.d, r.a, r.b,
     t.b, t.c, t.d, t.a]

/-- The double-round: a column round, then a row round (R122). -/
def dround (x : Words16) : Words16 := rowround (colround x)

/-- `n` double-rounds. -/
def doubleRounds : Nat → Words16 → Words16
  | 0, w => w
  | n + 1, w => doubleRounds n (dround w)

/-- The round counts accepted: positive and even (R6, R123). -/
def roundsOk (R : Word) : Bool := R != 0 && R.toNat % 2 == 0

/-- PERMUTE: `R/2` double-rounds, or `InvalidRoundCount` when `R` is 0 or odd (R123). -/
def permute (x : Words16) (R : Word) : Res Words16 :=
  if roundsOk R then .ok (doubleRounds (R.toNat / 2) x) else .err .invalidRoundCount

end Sys2Proof.Machine
end

