-- ==== Sys2Proof/Machine/Block.lean ====
section
/-! DEFINITION. State Setup (43 R140 to R149) and the keystream block function (44 R160 to R165). -/

namespace Sys2Proof.Machine

/-- The ASCII codes of "expand 32-byte k", the string for 32-byte keys (R143, R149). -/
def sigma : Vector Byte 16 :=
  #v[0x65, 0x78, 0x70, 0x61, 0x6e, 0x64, 0x20, 0x33, 0x32, 0x2d, 0x62, 0x79, 0x74, 0x65, 0x20, 0x6b]

/-- The ASCII codes of "expand 16-byte k", the string for 16-byte keys (R143, R149). -/
def tau : Vector Byte 16 :=
  #v[0x65, 0x78, 0x70, 0x61, 0x6e, 0x64, 0x20, 0x31, 0x36, 0x2d, 0x62, 0x79, 0x74, 0x65, 0x20, 0x6b]

/-- The initial state (R140, R143 to R147): constant chunks in words 0, 5, 10, 15, key words 1..4 and 11..14, nonce words
6 and 7, counter words 8 and 9 zero. `k2` is the byte offset in the key of the words 11..14. -/
def layout (str : Vector Byte 16) (k2 : Nat) (keyIn : BitVec 256) (nonceIn : BitVec 64) : Words16 :=
  #v[le32 str[0] str[1] str[2] str[3],
     portWord keyIn 0, portWord keyIn 4, portWord keyIn 8, portWord keyIn 12,
     le32 str[4] str[5] str[6] str[7],
     portWord nonceIn 0, portWord nonceIn 4,
     0, 0,
     le32 str[8] str[9] str[10] str[11],
     portWord keyIn k2, portWord keyIn (k2 + 4), portWord keyIn (k2 + 8), portWord keyIn (k2 + 12),
     le32 str[12] str[13] str[14] str[15]]

/-- SETUP: the key length is checked first, then the nonce length (R140 to R142); 32-byte keys take sigma and their
second half, 16-byte keys take tau and their bytes again (R143, R145). -/
def setup (keyIn : BitVec 256) (keyLen : Byte) (nonceIn : BitVec 64) (nonceLen : Byte) : Res Words16 :=
  if keyLen != 16 && keyLen != 32 then .err .invalidKeyLength
  else if nonceLen != 8 then .err .invalidNonceLength
  else if keyLen == 32 then .ok (layout sigma 16 keyIn nonceIn)
  else .ok (layout tau 0 keyIn nonceIn)

/-- The add-back: `z[i] = p[i] + x[i]` modulo 2^32, lane by lane (R164, R167). -/
def addBack (p x : Words16) : Words16 := Vector.zipWith (fun a b => a + b) p x

/-- Serialization: block byte `j` is bits `[8*(j mod 4)+7 : 8*(j mod 4)]` of `z[j div 4]` (R165). -/
def serialize (z : Words16) : Block64 := Vector.ofFn fun j : Fin 64 => byteLE (z[j.val / 4]) (j.val % 4)

/-- KSGEN (R160, R161). -/
def ksgen (x : Words16) (R : Word) : Res Block64 :=
  match permute x R with
  | .err e => .err e
  | .ok p => .ok (serialize (addBack p x))

/-- `keystream(x, R)` (R160), the block of a valid `R`. For an `R` that is 0 or odd the spec gives none ("it is used only
with valid R"), and the block is a free value (log entry 4). -/
def keystream (x : Words16) (R : Word) (draw : Nat) : Block64 :=
  match ksgen x R with
  | .ok b => b
  | .err _ => freeBlock draw 114

end Sys2Proof.Machine
end

