-- ==== Sys2Proof/Machine/Flags.lean ====
section
/-! DEFINITION. What the host sees: error codes (30 R77), the status word (R78), the counter readout (R79), the response
(R80), `cmd_ready` (R70), and the session phase (10 R31). -/

namespace Sys2Proof.Machine

/-- The error code (R77). -/
def ErrKind.code : ErrKind → BitVec 3
  | .ok => 0
  | .invalidKeyLength => 1
  | .invalidNonceLength => 2
  | .invalidRoundCount => 3
  | .malformedState => 4
  | .nonceLimitExceeded => 5
  | .noSession => 6
  | .illegalCommand => 7

/-- A flag as one bit. -/
def bit (b : Bool) : BitVec 1 := BitVec.ofBool b

/-- `status[31:0]` (R78): BUSY 0, VALID 1, EXH 2, HOOK 3, CUR 9:4, LAST_ERR 12:10, the rest 0. -/
def State.status (s : State) : BitVec 32 :=
  (0 : BitVec 19) ++ s.LAST_ERR.code ++ s.CUR ++ bit s.cfg.hasTestHook ++ bit s.EXH ++ bit s.VALID ++ bit s.BUSY

/-- `ctr_out[63:0] = (S[9], S[8])` (R79). -/
def State.ctrOut (s : State) : BitVec 64 := ctrOf s.S

/-- `cmd_ready`: 1 exactly when `BUSY = 0` and `rst = 0` (R70, R254); `rst` is the input's value. -/
def State.cmdReady (s : State) (rst : Bool) : Bool := !s.BUSY && !rst

/-- A response triple `(rsp_data, rsp_dv, rsp_err)` (R80). -/
structure Response where
  data : Byte
  dv : Bool
  err : ErrKind
deriving DecidableEq, Repr

/-- What the response ports show (R80). -/
def State.response (s : State) : Response := { data := s.RSP_DATA, dv := s.RSP_DV, err := s.RSP_ERR }

/-- The session phases (R31). -/
inductive Phase where
  | none
  | fresh
  | midblock
  | exhausted
deriving DecidableEq, Repr

/-- The phase, derived from the flags and the cursor (R31). -/
def State.phase (s : State) : Phase :=
  if !s.VALID then .none
  else if s.EXH then .exhausted
  else if s.CUR = 0 then .fresh
  else .midblock

end Sys2Proof.Machine
end

