-- ==== Sys2Proof/Machine/Ops.lean ====
section
/-! DEFINITION. The shared operations on the state: completing a command and raising an error (45 R180; 60 R224),
zeroization (45 R188), the inner modules' operations (42 R126; 44 R166), keystream regeneration, the block boundary
(45 R185), the pulses, and the hardware reset (70 R250). -/

namespace Sys2Proof.Machine

/-! ### The permutation engine and the keystream generator -/

/-- The start edge of an engine (R126): ignored while busy; otherwise the inputs are sampled. `pe_state_out` is held only
until the next start, so it is then a free value (log entry 4). DESIGN CHOICE: until the operation ends, `W` and `rnd` hold
what was sampled and the iteration count is one free value, since R127 leaves the running working state open (log entry
4); and `pe_err`, which R126 gives only with the done pulse, holds the code of the operation before (log entry 14). -/
def Engine.start (x : Words16) (R : Word) (draw : Nat) (e : Engine) : Engine :=
  if e.busy then e
  else
    { busy := true, done := false, err := e.err, stateOut := freeWords draw 0, W := x, rnd := R,
      iter := Config.freeWord draw 196 }

/-- The end of an engine's operation (R126): one done pulse carrying PERMUTE of the sampled inputs. The working state is
unspecified afterwards (R37), and so is `pe_state_out` with an error: free values. -/
def Engine.finish (draw : Nat) (e : Engine) : Engine :=
  if e.busy then
    { busy := false
      done := true
      err := match permute e.W e.rnd with
        | .ok _ => .ok
        | .err k => k
      stateOut := match permute e.W e.rnd with
        | .ok y => y
        | .err _ => freeWords draw 16
      W := freeWords draw 32
      rnd := Config.freeWord draw 48
      iter := Config.freeWord draw 49 }
  else e

/-- The done pulse falls (R126). DESIGN CHOICE: `pe_err` keeps its value (log entry 14). -/
def Engine.dropDone (e : Engine) : Engine := { e with done := false }

/-- The start edge of a generator (R166): ignored while busy; otherwise the inputs are sampled and its engine started on
them. `kg_block` is then a free value until the end. DESIGN CHOICE: `kg_err`, which R166 gives only with the done pulse,
holds the code of the operation before (log entry 14). -/
def Generator.start (x : Words16) (R : Word) (draw : Nat) (g : Generator) : Generator :=
  if g.busy then g
  else
    { busy := true, done := false, err := g.err, block := freeBlock draw 50, x := x,
      pe := ({ g.pe with busy := false } : Engine).start x R draw }

/-- The end of a generator's operation (R166): its engine has ended, and one done pulse carries KSGEN of the sampled
inputs; `kg_block` with an error, and the copy of the input afterwards (R37), are free values. DESIGN CHOICE (log entry 16):
the engine inside is busy until this end, and its own done pulse has fallen with it, so no state shows that pulse. -/
def Generator.finish (draw : Nat) (g : Generator) : Generator :=
  if g.busy then
    { busy := false
      done := true
      err := match ksgen g.x g.pe.rnd with
        | .ok _ => .ok
        | .err k => k
      block := match ksgen g.x g.pe.rnd with
        | .ok b => b
        | .err _ => freeBlock draw 114
      x := freeWords draw 180
      pe := (g.pe.finish draw).dropDone }
  else g

/-- The done pulses fall (R166). DESIGN CHOICE: `kg_err` keeps its value (log entry 14). -/
def Generator.dropDone (g : Generator) : Generator := { g with done := false, pe := g.pe.dropDone }

/-- A whole operation of the integrated generator inside a command (R261): started, ended, its pulse gone. -/
def Generator.ran (x : Words16) (R : Word) (draw : Nat) (g : Generator) : Generator :=
  ((({ g with busy := false } : Generator).start x R draw).finish draw).dropDone

/-! ### Completion and errors -/

/-- `complete(d, dv, e)` (R180): the response registers and `LAST_ERR` are written, `BUSY` falls, `rsp_valid` rises; the
copy of the operands is released (log entry 5). -/
def State.complete (d : Byte) (dv : Bool) (e : ErrKind) (s : State) : State :=
  { s with
    RSP_DATA := d, RSP_DV := dv, RSP_ERR := e, LAST_ERR := e, BUSY := false, rspValid := true,
    latch := Request.zero }

/-- `raise E` in a command (R224), the one way an error is taken: an ordinary completion with no output byte. There is no
trap entry and no return (R230, R231). -/
def State.raise (e : ErrKind) (s : State) : State := s.complete 0x00 false e

/-- A completion without error and without an output byte. -/
def State.finishOk (s : State) : State := s.complete 0x00 false .ok

/-! ### Session operations -/

/-- `ZEROIZE()` (R188): every session register and the inner modules' working state. -/
def State.zeroize (s : State) : State :=
  { s with
    S := zeroWords, KS := zeroBlock, CUR := 0, RND := 0, EXH := false, VALID := false, kg := Generator.zero }

/-- The integrated generator performs one operation inside a command; only its own registers change. -/
def State.useGenerator (x : Words16) (R : Word) (s : State) : State :=
  { s with kg := s.kg.ran x R s.draws, draws := s.draws + 1 }

/-- `KS <- keystream(S, RND)` (R185, R187, R189). -/
def State.regenerate (s : State) : State :=
  { s.useGenerator s.S s.RND with KS := keystream s.S s.RND s.draws }

/-- Counter words, cursor and exhaustion of a stream that starts at counter `c`, and its first block: what RESET (with
`c = 0`) and SETCTR share (R187, R189). -/
def State.restartAt (c : BitVec 64) (s : State) : State :=
  ({ s with S := setCtr s.S c, CUR := 0, EXH := false } : State).regenerate

/-- The increment of the counter words: `S[8] + 1`, with carry into `S[9]` when it wraps to 0 (R185). -/
def incrCtr (S : Words16) : Words16 :=
  let lo := S[8] + 1
  if lo = 0 then (S.set 8 lo).set 9 (S[9] + 1) else S.set 8 lo

/-- The counter is all ones, so that its increment overflows (R185). -/
def ctrOverflows (S : Words16) : Bool := S[8] == 0xFFFFFFFF && S[9] == 0xFFFFFFFF

/-- `BOUNDARY()` and the completion of the PBYTE that executes it, `dout` its output byte (R184, R185). -/
def State.boundary (dout : Byte) (s : State) : State :=
  let s1 : State := { s with S := incrCtr s.S }
  if ctrOverflows s.S then ({ s1 with EXH := true } : State).complete dout true .nonceLimitExceeded
  else s1.regenerate.complete dout true .ok

/-! ### Edges -/

/-- The one-cycle pulses fall at the next edge (R254, R126, R166). -/
def State.dropPulses (s : State) : State :=
  { s with
    rspValid := false,
    bench := { s.bench with pe := s.bench.pe.dropDone, kg := s.bench.kg.dropDone } }

/-- The accepting edge (R253, R256): the word and the operand ports are copied, `BUSY` rises. -/
def State.accept (w : BitVec 32) (s : State) : State :=
  { s.dropPulses with latch := { cmd := w, ops := s.pins }, BUSY := true }

/-- A rising edge with `rst = 1` (R250): every register of every module takes its reset value, whatever it held; a command
in flight is gone. The part's parameters, the host's side and the count of free values are no registers. -/
def State.hardReset (s : State) : State :=
  { State.resetWith s.cfg with pins := s.pins, host := s.host, draws := s.draws }

/-- The start edge of the engine at its own ports (R126). -/
def State.peStart (x : Words16) (R : Word) (s : State) : State :=
  { s with bench := { s.bench with pe := s.bench.pe.start x R s.draws }, draws := s.draws + 1 }

/-- The start edge of the generator at its own ports (R166). -/
def State.kgStart (x : Words16) (R : Word) (s : State) : State :=
  { s with bench := { s.bench with kg := s.bench.kg.start x R s.draws }, draws := s.draws + 1 }

/-- The end of the operation in progress of the engine at its own ports (R126), if there is one. -/
def State.endPe (s : State) : State :=
  if s.bench.pe.busy then
    { s with bench := { s.bench with pe := s.bench.pe.finish s.draws }, draws := s.draws + 1 }
  else s

/-- The end of the operation in progress of the generator at its own ports (R166), if there is one. -/
def State.endKg (s : State) : State :=
  if s.bench.kg.busy then
    { s with bench := { s.bench with kg := s.bench.kg.finish s.draws }, draws := s.draws + 1 }
  else s

end Sys2Proof.Machine
end

