-- ==== Sys2Proof/Machine/KeystreamGenerator.lean ====
section
/-! DEFINITION. The operation of salsa20_keystream_generator at its ports (44 R160, R166). -/

namespace Sys2Proof.Machine

/-- KSGEN (R160, R166): the generator is started on the inputs and its operation ends with one done pulse. A start while
the generator is busy is ignored. -/
def execKsgen (stateIn : Words16) (rounds : Word) (s : State) : Host.Outcome State Fault Refusal :=
  if s.bench.kg.busy then .next s
  else .next (s.kgStart stateIn rounds).endKg

end Sys2Proof.Machine
end

