-- ==== Sys2Proof/Machine/PermutationEngine.lean ====
section
/-! DEFINITION. The operations of salsa20_permutation_engine (42 R120 to R127). The round functions are pure; PERMUTE is a
whole operation of the engine at its ports. -/

namespace Sys2Proof.Machine

/-- COLROUND (R120). -/
def execColround (x : Words16) (s : State) : Host.Outcome State Fault Refusal :=
  .next { s with bench := { s.bench with y := colround x } }

/-- ROWROUND (R121). -/
def execRowround (x : Words16) (s : State) : Host.Outcome State Fault Refusal :=
  .next { s with bench := { s.bench with y := rowround x } }

/-- DROUND (R122). -/
def execDround (x : Words16) (s : State) : Host.Outcome State Fault Refusal :=
  .next { s with bench := { s.bench with y := dround x } }

/-- PERMUTE (R123, R126): the engine is started on the inputs and its operation ends with one done pulse. A start while
the engine is busy is ignored. -/
def execPermute (stateIn : Words16) (rounds : Word) (s : State) : Host.Outcome State Fault Refusal :=
  if s.bench.pe.busy then .next s
  else .next (s.peStart stateIn rounds).endPe

end Sys2Proof.Machine
end

