-- ==== Sys2Proof/Machine/QuarterRound.lean ====
section
/-! DEFINITION. The operations of salsa20_quarter_round at its ports (41 R100 to R104): combinational, no state written;
what the use samples is put in `bench`, and the host's move that makes the use takes the step
of one edge (DESIGN CHOICE, log entry 6). -/

namespace Sys2Proof.Machine

/-- MIX (R100, R101, R102). -/
def execMix (b c : Word) (rot : BitVec 5) (s : State) : Host.Outcome State Fault Refusal :=
  .next { s with bench := { s.bench with mix := mix b c rot } }

/-- QROUND (R103, R104). -/
def execQround (qa qb qc qd : Word) (s : State) : Host.Outcome State Fault Refusal :=
  .next { s with bench := { s.bench with z := qround qa qb qc qd } }

end Sys2Proof.Machine
end

