-- ==== Sys2Proof/Machine/StateSetup.lean ====
section
/-! DEFINITION. The SETUP operation (43 R140 to R149): combinational, it writes no register (R148). -/

namespace Sys2Proof.Machine

/-- SETUP (R140). DESIGN CHOICE (log entry 6): it is run by itself here, as R84 lists it among the PORT operations, while
R140 has it reached only through INIT. -/
def execSetup (keyIn : BitVec 256) (keyLen : Byte) (nonceIn : BitVec 64) (nonceLen : Byte) (s : State) :
    Host.Outcome State Fault Refusal :=
  .next { s with bench := { s.bench with setup := setup keyIn keyLen nonceIn nonceLen } }

end Sys2Proof.Machine
end

