-- ==== Sys2Proof/Machine/StreamCipher.lean ====
section
/-! DEFINITION. The commands of salsa20_stream_cipher (45 R181 to R189) and the completion of an illegal word (60 R226).
Each is the effect of one accepted command; its port operands are read from `latch`, the copy made at acceptance (R256). -/

namespace Sys2Proof.Machine

/-- NOP (R181). -/
def execNop (s : State) : Host.Outcome State Fault Refusal :=
  .next s.finishOk

/-- The state of an INIT whose State Setup gave `S'`: the generator is run on it (R182). -/
def State.initWith (S' : Words16) (R : Word) (s : State) : State :=
  match ksgen S' R with
  | .err e => ((s.useGenerator S' R).zeroize).raise e
  | .ok b =>
    ({ s.useGenerator S' R with
        S := S', KS := b, RND := R, CUR := 0, EXH := false, VALID := true } : State).finishOk

/-- INIT (R182, R183): State Setup, then the keystream generator; the first error zeroizes and is reported. -/
def execInit (s : State) : Host.Outcome State Fault Refusal :=
  match setup s.latch.ops.keyIn s.latch.ops.keyLen s.latch.ops.nonceIn s.latch.ops.nonceLen with
  | .err e => .next (s.zeroize.raise e)
  | .ok S' => .next (s.initWith S' s.latch.ops.roundsIn)

/-- PBYTE (R184, R185, R186). -/
def execPbyte (din : Byte) (s : State) : Host.Outcome State Fault Refusal :=
  if !s.VALID then .next (s.raise .noSession)
  else if s.EXH then .next (s.raise .nonceLimitExceeded)
  else
    let dout := din ^^^ s.KS[s.CUR.toNat]
    let s1 : State := { s with CUR := s.CUR + 1 }
    if s1.CUR = 0 then .next (s1.boundary dout)
    else .next (s1.complete dout true .ok)

/-- RESET (R187), the stream reset. -/
def execReset (s : State) : Host.Outcome State Fault Refusal :=
  if !s.VALID then .next (s.raise .noSession)
  else .next (s.restartAt 0).finishOk

/-- WIPE (R188). -/
def execWipe (s : State) : Host.Outcome State Fault Refusal :=
  .next s.zeroize.finishOk

/-- SETCTR (R189): illegal without the hook. -/
def execSetctr (s : State) : Host.Outcome State Fault Refusal :=
  if !s.cfg.hasTestHook then .next (s.raise .illegalCommand)
  else if !s.VALID then .next (s.raise .noSession)
  else .next (s.restartAt s.latch.ops.ctrIn).finishOk

/-- The completion of an illegal command word (R74, R226). -/
def execIllegal (s : State) : Host.Outcome State Fault Refusal :=
  .next (s.raise .illegalCommand)

end Sys2Proof.Machine
end

