-- ==== Sys2Proof/Machine/Dispatch.lean ====
section
/-! DEFINITION. One arm per operation (opcode_table.json). -/

namespace Sys2Proof.Machine

def exec (i : Instr) (s : State) : Host.Outcome State Fault Refusal :=
  match i with
  | .nop => Sys2Proof.Machine.execNop s
  | .init => Sys2Proof.Machine.execInit s
  | .pbyte din => Sys2Proof.Machine.execPbyte din s
  | .reset => Sys2Proof.Machine.execReset s
  | .wipe => Sys2Proof.Machine.execWipe s
  | .setctr => Sys2Proof.Machine.execSetctr s
  | .mix b c rot => Sys2Proof.Machine.execMix b c rot s
  | .qround qa qb qc qd => Sys2Proof.Machine.execQround qa qb qc qd s
  | .colround x => Sys2Proof.Machine.execColround x s
  | .rowround x => Sys2Proof.Machine.execRowround x s
  | .dround x => Sys2Proof.Machine.execDround x s
  | .permute stateIn rounds => Sys2Proof.Machine.execPermute stateIn rounds s
  | .setup keyIn keyLen nonceIn nonceLen => Sys2Proof.Machine.execSetup keyIn keyLen nonceIn nonceLen s
  | .ksgen stateIn rounds => Sys2Proof.Machine.execKsgen stateIn rounds s

end Sys2Proof.Machine
end

