-- ==== Sys2Proof/Machine/Handshake.lean ====
section
/-! DEFINITION. The command port between edges (70 R250 to R261): the completion of the command in flight, a whole
transaction, and each of the host's moves. -/

namespace Sys2Proof.Machine

/-- The completion edge of the command in flight (R194, R254): the word copied at acceptance is decoded and its operation
takes effect; an illegal word completes with `IllegalCommand`. -/
def State.completeInFlight (s : State) : Host.Outcome State Fault Refusal :=
  match decode s.latch.cmd with
  | .instr i => exec i s
  | .illegal _ => execIllegal s

/-- One transaction on a free port (R12, R260): the word is accepted, and completes. A busy port accepts none (R253, R254):
`State.present` is what the host's move does. -/
def State.transact (w : BitVec 32) (s : State) : Host.Outcome State Fault Refusal :=
  (s.accept w).completeInFlight

/-- Edges pass until everything in flight has ended: the operations at the modules' own ports and the command. With
nothing in flight the state is held, but for the pulses (R238, R254, R260). -/
def State.settle (s : State) : Host.Outcome State Fault Refusal :=
  if s.BUSY then s.dropPulses.endPe.endKg.completeInFlight
  else .next s.dropPulses.endPe.endKg

/-- The host presents a word on a port that is free, and waits for its completion; while the port is busy it is not
accepted (R253, R254) and the host waits, `again` being the state that still presents it. -/
def State.present (w : BitVec 32) (s again : State) : Host.Outcome State Fault Refusal :=
  if s.BUSY then again.settle else s.transact w

/-- The host presents a word until it is accepted, and no longer (R253). -/
def State.presentAccept (w : BitVec 32) (s again : State) : Host.Outcome State Fault Refusal :=
  if s.BUSY then again.settle else .next (s.accept w)

/-- An operation is performed: a command as its command word, a PORT operation at its module's ports (R84). DESIGN CHOICE
(log entry 6): the host may perform SETUP by itself too; and every PORT operation takes the step of one edge, so the pulses
fall, the combinational ones included, though R104 gives these no clock. -/
def State.perform (i : Instr) (s again : State) : Host.Outcome State Fault Refusal :=
  match encode i with
  | some w => s.present w again
  | none => exec i s.dropPulses

/-- One of the host's moves, from the state `s` in which it is taken from the host's list; `again` is the state in which
it still stands there. -/
def State.move (m : HostMove) (s again : State) : Host.Outcome State Fault Refusal :=
  match m with
  | .drive p => .next { s with pins := p }
  | .issue w => s.present w again
  | .accept w => s.presentAccept w again
  | .op i => s.perform i again
  | .peStart x R => .next (s.dropPulses.peStart x R)
  | .kgStart x R => .next (s.dropPulses.kgStart x R)
  | .wait => s.settle
  | .idle => .next s.dropPulses
  | .rst => .next s.hardReset

/-- A free command port with the word `w` presented on it next, the operand ports as they are. -/
def State.presentWord (w : BitVec 32) (s : State) : State :=
  { s with BUSY := false, host := .issue w :: s.host }

/-- The 32-bit word of an opcode-table value. -/
def fetchWord (nbits w : Nat) : BitVec 32 := BitVec.ofNat 32 (tableWord nbits w)

end Sys2Proof.Machine
end

