-- ==== Sys2Proof/Machine/Step.lean ====
section
/-! DEFINITION. The step: the next of the host's moves, or, with none left, waiting. The core has no program counter and
does not fetch (10_state.md R35); the host presents its commands (log entry 3). -/

namespace Sys2Proof.Machine

/-- One step (R12, R194, R262, R263). -/
def step (s : State) : Host.Outcome State Fault Refusal :=
  match s.host with
  | [] => s.settle
  | m :: rest => ({ s with host := rest } : State).move m s

/-- The state whose very next step is the transaction of the word `w`: the host presents it first. -/
def State.withFetchWord (s : State) (nbits w : Nat) : State := s.presentWord (fetchWord nbits w)

end Sys2Proof.Machine
end

