-- ==== Sys2Proof/Machine/HostTool.lean ====
section
/-! DEFINITION. The host's side of a run: commands with their operands (70 R262), the observation of a run, and the PBYTES
pseudo-instruction with its stop rule (30 R83). The core never sees any of it. -/

namespace Sys2Proof.Machine

/-- A command of a run: its word and the operand ports' values (R262). -/
structure Command where
  word : BitVec 32
  ops : Operands
deriving DecidableEq, Repr

/-- The command word of `PBYTE b` (R81, R184). -/
def pbyteWord (b : Byte) : BitVec 32 := 0x00000002 ||| (b.setWidth 32 <<< 8)

/-- The host drives the operand ports and has the command done on a free port: one transaction (R12). -/
def State.give (c : Command) (s : State) : Host.Outcome State Fault Refusal :=
  ({ s with pins := c.ops } : State).transact c.word

/-- What a run leaves: the responses in order, and the last state (R262). -/
structure RunResult where
  responses : List Response
  state : State
deriving DecidableEq, Repr

/-- The commands of a run, one after another (R262). No command faults or is refused. -/
def runCommands : List Command → State → RunResult
  | [], s => { responses := [], state := s }
  | c :: cs, s =>
    match s.give c with
    | .next t =>
      { responses := t.response :: (runCommands cs t).responses, state := (runCommands cs t).state }
    | .fault _ => { responses := [], state := s }
    | .refused _ => { responses := [], state := s }

/-- The observation of a run (R262). -/
structure Observation where
  responses : List Response
  status : BitVec 32
  ctrOut : BitVec 64
deriving DecidableEq, Repr

/-- The observation of the run of a list of commands from the hardware reset of a part (R262). -/
def observe (c : Config) (cs : List Command) : Observation :=
  { responses := (runCommands cs (State.resetWith c)).responses
    status := (runCommands cs (State.resetWith c)).state.status
    ctrOut := (runCommands cs (State.resetWith c)).state.ctrOut }

/-- What PBYTES gives the host (R83): the output bytes, the error if any, and the state it leaves. -/
structure PbytesResult where
  out : List Byte
  err : ErrKind
  state : State
deriving DecidableEq, Repr

/-- The output byte of a response, if it carries one (R80, R83). -/
def Response.byte? (r : Response) : List Byte := if r.dv then [r.data] else []

/-- PBYTES, and so ENCRYPT and DECRYPT (R83, R190): one PBYTE per byte, in order, on a free port, stopping after the first response
with an error. -/
def pbytes : List Byte → State → PbytesResult
  | [], s => { out := [], err := .ok, state := s }
  | b :: bs, s =>
    match s.transact (pbyteWord b) with
    | .next t =>
      if t.RSP_ERR = .ok then
        { out := t.response.byte? ++ (pbytes bs t).out, err := (pbytes bs t).err, state := (pbytes bs t).state }
      else { out := t.response.byte?, err := t.RSP_ERR, state := t }
    | .fault _ => { out := [], err := .ok, state := s }
    | .refused _ => { out := [], err := .ok, state := s }

end Sys2Proof.Machine
end

