-- ==== Sys2Proof/Machine/AsmText.lean ====
section
/-! DEFINITION. The textual form of commands and the pseudo-instructions (30 R81, R83): a host-side tool's reading of one
line, and the commands it stands for. -/

namespace Sys2Proof.Machine

/-- A line of text (R81, R83). -/
inductive AsmLine where
  | nop
  | init (key nonce : List Byte) (rounds : Option Nat) (klen nlen : Option Nat)
  | pbyte (b : Byte)
  | reset
  | wipe
  | setctr (c : BitVec 64)
  | pbytes (bs : List Byte)
  | encrypt (bs : List Byte)
  | decrypt (bs : List Byte)
deriving DecidableEq, Repr

/-- A number fits in `n` bits, where it is given. -/
def fits (n : Nat) : Option Nat → Bool
  | none => true
  | some v => v < 2 ^ n

/-- The limits of R81: a key string of at most 32 bytes, a nonce string of at most 8; numbers fit their ports (R70). -/
def AsmLine.wf : AsmLine → Bool
  | .init key nonce rounds klen nlen =>
    decide (key.length ≤ 32) && decide (nonce.length ≤ 8) && fits 32 rounds && fits 8 klen && fits 8 nlen
  | .nop => true
  | .pbyte _ => true
  | .reset => true
  | .wipe => true
  | .setctr _ => true
  | .pbytes _ => true
  | .encrypt _ => true
  | .decrypt _ => true

/-- The operand ports of an INIT line: byte `k` of a string is byte `k` of its port, missing bytes are 0; the lengths are
those of the strings unless given; `rounds` is 20 unless given (R81). DESIGN CHOICE (log entry 17): `ctr_in`, which the line
does not name, is driven to 0. -/
def initOperands (key nonce : List Byte) (rounds klen nlen : Option Nat) : Operands :=
  { keyIn := BitVec.ofNat 256 (packDigits key)
    keyLen := BitVec.ofNat 8 (klen.getD key.length)
    nonceIn := BitVec.ofNat 64 (packDigits nonce)
    nonceLen := BitVec.ofNat 8 (nlen.getD nonce.length)
    roundsIn := BitVec.ofNat 32 (rounds.getD 20)
    ctrIn := 0 }

/-- A command with no operand on the ports. DESIGN CHOICE (log entry 17): all of them are driven to 0. -/
def plainCommand (w : BitVec 32) : Command := { word := w, ops := Operands.zero }

/-- The commands a line stands for (R81 to R83); those of a pseudo-instruction are issued under its stop rule.
DESIGN CHOICE (log entry 17): the operand ports a line does not name are driven to 0. -/
def AsmLine.commands : AsmLine → List Command
  | .nop => [plainCommand 0x00000000]
  | .init key nonce rounds klen nlen => [{ word := 0x00000001, ops := initOperands key nonce rounds klen nlen }]
  | .pbyte b => [plainCommand (pbyteWord b)]
  | .reset => [plainCommand 0x00000003]
  | .wipe => [plainCommand 0x00000004]
  | .setctr c => [{ word := 0x00000005, ops := { Operands.zero with ctrIn := c } }]
  | .pbytes bs => bs.map fun b => plainCommand (pbyteWord b)
  | .encrypt bs => bs.map fun b => plainCommand (pbyteWord b)
  | .decrypt bs => bs.map fun b => plainCommand (pbyteWord b)

/-- White space and commas separate the words of a line. -/
def isSeparator (c : Char) : Bool := c == ' ' || c == ',' || c == '\t'

/-- A word read backwards, if it is not empty. -/
def flush (cur : List Char) : List (List Char) := if cur.isEmpty then [] else [cur.reverse]

/-- The words of a line; `;` starts a comment (R81). `cur` is the word being read, backwards. -/
def lineWords : List Char → List Char → List (List Char)
  | [], cur => flush cur
  | c :: cs, cur =>
    if c == ';' then flush cur
    else if isSeparator c then flush cur ++ lineWords cs []
    else lineWords cs (c :: cur)

/-- A decimal digit. -/
def decDigit (c : Char) : Option Nat :=
  if '0'.toNat ≤ c.toNat ∧ c.toNat ≤ '9'.toNat then some (c.toNat - '0'.toNat) else none

/-- A hexadecimal digit, of either case. -/
def hexDigit (c : Char) : Option Nat :=
  if 'a'.toNat ≤ c.toNat ∧ c.toNat ≤ 'f'.toNat then some (c.toNat - 'a'.toNat + 10)
  else if 'A'.toNat ≤ c.toNat ∧ c.toNat ≤ 'F'.toNat then some (c.toNat - 'A'.toNat + 10)
  else decDigit c

/-- The value of digits in a base, most significant first, after `acc`; none where one is no digit. -/
def digitsValue (digit : Char → Option Nat) (base : Nat) : List Char → Nat → Option Nat
  | [], acc => some acc
  | c :: cs, acc =>
    match digit c with
    | some d => digitsValue digit base cs (acc * base + d)
    | none => none

/-- A number, decimal or `0x` hexadecimal (R81). -/
def readNumber : List Char → Option Nat
  | [] => none
  | ['0', 'x'] => none
  | '0' :: 'x' :: ds => digitsValue hexDigit 16 ds 0
  | c :: cs => digitsValue decDigit 10 (c :: cs) 0

/-- A number below `2^n`, as a vector of `n` bits. -/
def readBits (n : Nat) (cs : List Char) : Option (BitVec n) :=
  match readNumber cs with
  | some v => if v < 2 ^ n then some (BitVec.ofNat n v) else none
  | none => none

/-- A byte string: an even number of hexadecimal digits without a leading `0x`, byte 0 first (R81). -/
def readBytes : List Char → Option (List Byte)
  | [] => some []
  | [_] => none
  | a :: b :: cs =>
    match hexDigit a, hexDigit b, readBytes cs with
    | some x, some y, some bs => some (BitVec.ofNat 8 (16 * x + y) :: bs)
    | _, _, _ => none

/-- What the words after INIT have given so far. -/
structure InitArgs where
  key : Option (List Byte)
  nonce : Option (List Byte)
  rounds : Option Nat
  klen : Option Nat
  nlen : Option Nat

/-- No argument yet. -/
def InitArgs.empty : InitArgs := { key := none, nonce := none, rounds := none, klen := none, nlen := none }

/-- One `name=value` word of an INIT line (R81). -/
def readInitArg (a : InitArgs) : List Char → Option InitArgs
  | 'k' :: 'e' :: 'y' :: '=' :: v => (readBytes v).map fun bs => { a with key := some bs }
  | 'n' :: 'o' :: 'n' :: 'c' :: 'e' :: '=' :: v => (readBytes v).map fun bs => { a with nonce := some bs }
  | 'r' :: 'o' :: 'u' :: 'n' :: 'd' :: 's' :: '=' :: v => (readNumber v).map fun n => { a with rounds := some n }
  | 'k' :: 'l' :: 'e' :: 'n' :: '=' :: v => (readNumber v).map fun n => { a with klen := some n }
  | 'n' :: 'l' :: 'e' :: 'n' :: '=' :: v => (readNumber v).map fun n => { a with nlen := some n }
  | _ => none

/-- All the words of an INIT line. -/
def readInitArgs : List (List Char) → InitArgs → Option InitArgs
  | [], a => some a
  | w :: ws, a =>
    match readInitArg a w with
    | some a' => readInitArgs ws a'
    | none => none

/-- An INIT line: the key and the nonce must be given (R81). -/
def initLine (a : InitArgs) : Option AsmLine :=
  match a.key, a.nonce with
  | some k, some n => some (.init k n a.rounds a.klen a.nlen)
  | _, _ => none

/-- The line of a list of words; the mnemonics are upper case (R81). DESIGN CHOICE (log entry 12): PBYTES, ENCRYPT and
DECRYPT may carry the empty byte string, and then stand alone. -/
def lineOfWords : List (List Char) → Option AsmLine
  | [['N', 'O', 'P']] => some .nop
  | [['R', 'E', 'S', 'E', 'T']] => some .reset
  | [['W', 'I', 'P', 'E']] => some .wipe
  | [['P', 'B', 'Y', 'T', 'E'], v] => (readBits 8 v).map .pbyte
  | [['S', 'E', 'T', 'C', 'T', 'R'], v] => (readBits 64 v).map .setctr
  | [['P', 'B', 'Y', 'T', 'E', 'S'], v] => (readBytes v).map .pbytes
  | [['E', 'N', 'C', 'R', 'Y', 'P', 'T'], v] => (readBytes v).map .encrypt
  | [['D', 'E', 'C', 'R', 'Y', 'P', 'T'], v] => (readBytes v).map .decrypt
  | [['P', 'B', 'Y', 'T', 'E', 'S']] => some (.pbytes [])
  | [['E', 'N', 'C', 'R', 'Y', 'P', 'T']] => some (.encrypt [])
  | [['D', 'E', 'C', 'R', 'Y', 'P', 'T']] => some (.decrypt [])
  | ['I', 'N', 'I', 'T'] :: args =>
    match readInitArgs args InitArgs.empty with
    | some a => initLine a
    | none => none
  | _ => none

/-- Reading one line of text (R81): none where it is no command, or one outside the limits. -/
def readLine (cs : List Char) : Option AsmLine :=
  match lineOfWords (lineWords cs []) with
  | some l => if l.wf then some l else none
  | none => none

end Sys2Proof.Machine
end

