-- ==== Sys2Proof/Safety.lean ====
section
/-! DEFINITION. The terms claims are stated in: what a completion leaves, what an operation keeps, the session invariants
of 10_state.md R32, the invariants of the response and of the inner modules, and positions in the keystream. -/

namespace Sys2Proof.Machine

/-- The completion `complete(d, dv, e)` (R180). What it does to the copy of the operands is the model's choice (log entry 5)
and is said in `PortInv`. -/
structure Responded (t : State) (d : Byte) (dv : Bool) (e : ErrKind) : Prop where
  data : t.RSP_DATA = d
  dv : t.RSP_DV = dv
  err : t.RSP_ERR = e
  last : t.LAST_ERR = e
  busy : t.BUSY = false
  valid : t.rspValid = true

/-- The session registers are unchanged. -/
structure SessionKept (s t : State) : Prop where
  S : t.S = s.S
  KS : t.KS = s.KS
  CUR : t.CUR = s.CUR
  RND : t.RND = s.RND
  VALID : t.VALID = s.VALID
  EXH : t.EXH = s.EXH

/-- What no command changes: the parameters, the host's side, the modules at their own ports. -/
structure OutsideKept (s t : State) : Prop where
  cfg : t.cfg = s.cfg
  pins : t.pins = s.pins
  host : t.host = s.host
  bench : t.bench = s.bench

/-- The integrated generator is untouched. -/
structure GeneratorKept (s t : State) : Prop where
  kg : t.kg = s.kg
  draws : t.draws = s.draws

/-- Every word of the session state but the counter words 8 and 9 is the same. -/
def KeyPartKept (x y : Words16) : Prop := ∀ k : Fin 16, k.val ≠ 8 → k.val ≠ 9 → y[k] = x[k]

/-- The constant words are sigma's or tau's, as R149 lists their values. -/
def HasConstants (x : Words16) : Prop :=
  (x[0] = 0x61707865 ∧ x[5] = 0x3320646e ∧ x[10] = 0x79622d32 ∧ x[15] = 0x6b206574) ∨
  (x[0] = 0x61707865 ∧ x[5] = 0x3120646e ∧ x[10] = 0x79622d36 ∧ x[15] = 0x6b206574)

/-- The invariants of R32, in its order. -/
structure SessionInv (s : State) : Prop where
  none : s.VALID = false →
    s.S = zeroWords ∧ s.KS = zeroBlock ∧ s.CUR = 0 ∧ s.RND = 0 ∧ s.EXH = false
  live : s.VALID = true → roundsOk s.RND = true ∧ HasConstants s.S
  block : s.VALID = true → s.EXH = false → ksgen s.S s.RND = .ok s.KS
  exhausted : s.VALID = true → s.EXH = true → s.CUR = 0 ∧ ctrOf s.S = 0

/-- What holds of the response registers, the copy of the operands and the inner modules: `RSP_ERR` is `LAST_ERR` (R30);
no byte is shown but a valid one (R80); nothing is copied between commands (the model's choice, log entry 5); the integrated
generator is at rest in every state, commands being one step, and all of it, its done and error outputs included, is zero
while there is no session (R63, and the model's reading, log entry 11); code 4 is driven on no error output (R228). -/
structure PortInv (s : State) : Prop where
  err : s.RSP_ERR = s.LAST_ERR
  data : s.RSP_DV = false → s.RSP_DATA = 0
  latch : s.BUSY = false → s.latch = Request.zero
  pulse : s.rspValid = true → s.BUSY = false
  rest : s.kg.busy = false ∧ s.kg.done = false ∧ s.kg.pe.busy = false ∧ s.kg.pe.done = false
  residue : s.VALID = false → s.kg = Generator.zero
  code4 : s.LAST_ERR ≠ .malformedState ∧ s.kg.err ≠ .malformedState ∧ s.kg.pe.err ≠ .malformedState ∧
    s.bench.pe.err ≠ .malformedState ∧ s.bench.kg.err ≠ .malformedState ∧ s.bench.kg.pe.err ≠ .malformedState

/-- Byte `n` of the keystream of the key part of `K` with `R` rounds: byte `n mod 64` of the block of counter `n div 64`
(R191). It is asked only of a valid `R`. -/
def streamByte (K : Words16) (R : Word) (n : Nat) : Byte :=
  (keystream (setCtr K (BitVec.ofNat 64 (n / 64))) R 0)[n % 64]'(Nat.mod_lt n (by decide))

/-- The session of the key part of `K` and round count `R` stands at position `n`: the next byte is byte `n mod 64` of
block `n div 64` (R35, R191), and no command is in flight. -/
structure AtPosition (K : Words16) (R : Word) (n : Nat) (s : State) : Prop where
  valid : s.VALID = true
  live : s.EXH = false
  rounds : s.RND = R
  key : KeyPartKept K s.S
  ctr : (ctrOf s.S).toNat = n / 64
  cur : s.CUR.toNat = n % 64
  free : s.BUSY = false
  block : ksgen s.S s.RND = .ok s.KS

/-- What the `i`-th byte of a message becomes from position `n` on (R191). -/
def cipherBytes (K : Words16) (R : Word) (n : Nat) : List Byte → List Byte
  | [] => []
  | b :: bs => (b ^^^ streamByte K R n) :: cipherBytes K R (n + 1) bs

/-- The keystream bytes of one key, nonce and round count before the counter overflows: 2^70 (R192). -/
def streamLimit : Nat := 1180591620717411303424

end Sys2Proof.Machine
end

