-- ==== Sys2Proof/Certificates/Slice0/Obligations.lean ====
section
/-! DEFINITION. The statements for the provers. Each docstring says what it formalises. -/

open Sys2Proof Sys2Proof.Machine Host

/-! ### Encoding -/

/-- R82: the words of the textual forms, and its four illegal words with the reasons it gives. -/
def Obligations.TabledWordsDecode : Prop :=
  decode 0x00000000 = .instr .nop ∧ decode 0x00000001 = .instr .init ∧
  decode 0x00000002 = .instr (.pbyte 0x00) ∧ decode 0x0000A502 = .instr (.pbyte 0xA5) ∧
  decode 0x0000FF02 = .instr (.pbyte 0xFF) ∧ decode 0x00000003 = .instr .reset ∧
  decode 0x00000004 = .instr .wipe ∧ decode 0x00000005 = .instr .setctr ∧
  encode .nop = some 0x00000000 ∧ encode .init = some 0x00000001 ∧
  encode (.pbyte 0x00) = some 0x00000002 ∧ encode (.pbyte 0xA5) = some 0x0000A502 ∧
  encode (.pbyte 0xFF) = some 0x0000FF02 ∧ encode .reset = some 0x00000003 ∧
  encode .wipe = some 0x00000004 ∧ encode .setctr = some 0x00000005 ∧
  decode 0x00000006 = .illegal .reservedOpcode ∧ decode 0x00000010 = .illegal .reservedBits ∧
  decode 0x00000101 = .illegal .dataField ∧ decode 0x00010002 = .illegal .reservedBits

/-- R73, R84: every command has a word that decodes to it, with every byte of PBYTE; a PORT operation has none, and no
word decodes to one. -/
def Obligations.DecodeInvertsEncode : Prop :=
  ∀ i : Instr,
    (i.isCommand = true → ∃ w, encode i = some w ∧ decode w = .instr i) ∧
    (i.isPort = true → encode i = none ∧ ∀ w, decode w ≠ .instr i)

/-- R72, R73: a word that decodes is the word of the instruction it decodes to, so no bit of it is without meaning. -/
def Obligations.EncodeInvertsDecode : Prop :=
  ∀ (w : BitVec 32) (i : Instr), decode w = .instr i → encode i = some w

/-- R72, R73, R74: a word is illegal at the decoder exactly when it matches no row. The model's choices: the word of SETCTR,
illegal on a part without the hook (R74), decodes on every part and is answered there as illegal (log entry 8); and of the
parts of R74 a word falls under, the first is named: an opcode 0x6..0xF, else a nonzero reserved bit, else a nonzero DATA
field (log entry 15). -/
def Obligations.IllegalWordsMatchNoRow : Prop :=
  ∀ w : BitVec 32,
    ((∃ why, decode w = .illegal why) ↔
      w ≠ 0 ∧ w ≠ 1 ∧ w &&& 0xFFFF00FF ≠ 2 ∧ w ≠ 3 ∧ w ≠ 4 ∧ w ≠ 5) ∧
    (decode w = .illegal .reservedOpcode ↔ 6 ≤ (w.extractLsb' 0 4).toNat) ∧
    (decode w = .illegal .reservedBits →
      (w.extractLsb' 0 4).toNat < 6 ∧ (w.extractLsb' 4 4 ≠ 0 ∨ w.extractLsb' 16 16 ≠ 0)) ∧
    (decode w = .illegal .dataField →
      (w.extractLsb' 0 4).toNat < 6 ∧ w.extractLsb' 4 4 = 0 ∧ w.extractLsb' 16 16 = 0 ∧
      w.extractLsb' 8 8 ≠ 0 ∧ w.extractLsb' 0 4 ≠ 2)

/-! ### The step and the handshake -/

/-- R12, R194: a step that issues a word on a free port runs the decoded command on the accepted state. The model's choice
(log entry 3): `withFetchWord` frees the port and presents the word, so that the very next step runs the instruction the
opcode table's bits decode to. -/
def Obligations.StepRunsTheIssuedCommand : Prop :=
  (∀ (s : State) (w : BitVec 32) (rest : List HostMove) (i : Instr),
    s.host = .issue w :: rest → s.BUSY = false → decode w = .instr i →
    step s = exec i (({ s with host := rest } : State).accept w)) ∧
  (∀ (s : State) (nbits w : Nat) (i : Instr), decodeTableWord nbits w = some i →
    step (s.withFetchWord nbits w) =
      exec i (({ s with BUSY := false } : State).accept (BitVec.ofNat 32 (w % 2 ^ nbits))))

/-- R84: a step that performs a PORT operation runs it; a command performed by name on a free port is the transaction of
its word. The model's choice (log entry 6): the move takes the step of one edge, so the pulses of the cycle before fall. -/
def Obligations.StepPerformsTheNamedOperation : Prop :=
  ∀ (s : State) (i : Instr) (rest : List HostMove), s.host = .op i :: rest →
    (i.isPort = true → step s = exec i ({ s with host := rest } : State).dropPulses) ∧
    (∀ w, encode i = some w → s.BUSY = false → step s = step { s with host := .issue w :: rest })

/-- R253, R256: at the accepting edge `BUSY` rises and the word and all operand ports are copied; nothing else changes
but the pulses that fall. -/
def Obligations.AcceptanceSamplesTheOperands : Prop :=
  ∀ (s : State) (w : BitVec 32) (rest : List HostMove), s.host = .accept w :: rest → s.BUSY = false →
    ∃ t, step s = .next t ∧ t.BUSY = true ∧ t.latch = { cmd := w, ops := s.pins } ∧
      SessionKept s t ∧ GeneratorKept s t ∧ t.response = s.response ∧ t.LAST_ERR = s.LAST_ERR ∧
      t.rspValid = false ∧ t.cfg = s.cfg ∧ t.pins = s.pins ∧ t.host = rest ∧ t.bench = s.dropPulses.bench

/-- R256: the operand ports at any edge but the accepting one have no effect: a command in flight completes in the same
state whatever is driven after its acceptance, but for the ports themselves. -/
def Obligations.LaterOperandsHaveNoEffect : Prop :=
  ∀ (s : State) (p : Operands) (i : Instr), i.isCommand = true →
    ∃ t, exec i s = .next t ∧ exec i { s with pins := p } = .next { t with pins := p }

/-- R253, R254: while a command is in flight no other is accepted, and `cmd_ready` is 0. The model's choice (log entry 7):
the step that presents the word ends the operations at the modules' own ports, if there are any, and completes the command
in flight, a legal one with its effect, an illegal one with IllegalCommand. -/
def Obligations.BusyPortCompletesFirst : Prop :=
  ∀ (s : State) (w : BitVec 32) (rest : List HostMove),
    (s.host = .issue w :: rest ∨ s.host = .accept w :: rest) → s.BUSY = true →
    s.cmdReady false = false ∧
    (∀ i, decode s.latch.cmd = .instr i → step s = exec i s.dropPulses.endPe.endKg) ∧
    (∀ why, decode s.latch.cmd = .illegal why →
      step s = .next (s.dropPulses.endPe.endKg.raise .illegalCommand)) ∧
    (s.bench.pe.busy = false → s.bench.kg.busy = false → s.dropPulses.endPe.endKg = s.dropPulses)

/-- R254, R260, D39: a transaction is its accepting edge, any number of edges at which nothing ends, and its completion;
the number of them (the latency) does not show. -/
def Obligations.LatencyDoesNotShow : Prop :=
  ∀ (s : State) (w : BitVec 32) (rest : List HostMove) (n : Nat),
    s.BUSY = false → s.bench.pe.busy = false → s.bench.kg.busy = false →
    Sys2Proof.core.run (n + 2) { s with host := .accept w :: (List.replicate n HostMove.idle ++ .wait :: rest) } =
      step { s with host := .issue w :: rest }

/-- R258, R56: while a command is in flight, `status` is the one before it but for bit 0, and `ctr_out` is the one before it:
every step that ends with a command in flight, the one that accepts it among them, leaves them so. From the acceptance on a
free port, idle edges are such steps. -/
def Obligations.StatusWhileBusyIsTheOldOne : Prop :=
  (∀ s t : State, step s = .next t → t.BUSY = true → t.status = s.status ||| 1 ∧ t.ctrOut = s.ctrOut) ∧
  (∀ (s : State) (w : BitVec 32) (rest : List HostMove), s.BUSY = false →
    ∃ t u, step { s with host := .accept w :: .idle :: rest } = .next t ∧ step t = .next u ∧
      t.BUSY = true ∧ u.BUSY = true ∧
      t.status = s.status ||| 1 ∧ u.status = s.status ||| 1 ∧ t.ctrOut = s.ctrOut ∧ u.ctrOut = s.ctrOut)

/-- R255, R254: the response registers, and the session registers and the integrated generator with them, change only at a
completion, which the pulse marks, and at the hardware reset. A step that drives ports is no edge (log entry 3), so it
leaves a pulse up, and changes none of them. -/
def Obligations.ResponseIsHeld : Prop :=
  ∀ s t : State, step s = .next t → s.host.head? ≠ some HostMove.rst →
    t.rspValid = false ∨ (∃ p, s.host.head? = some (HostMove.drive p)) →
    t.response = s.response ∧ t.LAST_ERR = s.LAST_ERR ∧ SessionKept s t ∧ t.kg = s.kg

/-- R230, R224, D7: every step answers a next state: an error is a result value in the response. -/
def Obligations.EveryStepAnswersNext : Prop :=
  ∀ s : State, ∃ t, step s = .next t

/-! ### Reset -/

/-- R38, R250: at an edge with `rst = 1` every register of every module takes its reset value, whatever the state and
whatever is in flight, without a response. The model's choices: that the copy of the operands is zero (log entry 5), the
modules at their own ports with their sampled observations (log entry 6), and that the parameters and the host's side are
no registers and stay (log entries 1, 3, 10). -/
def Obligations.HardwareResetTakesResetValues : Prop :=
  ∀ (s : State) (rest : List HostMove), s.host = .rst :: rest →
    ∃ t, step s = .next t ∧
      (∀ k : Fin 16, t.S[k] = 0) ∧ (∀ j : Fin 64, t.KS[j] = 0) ∧ t.CUR = 0 ∧ t.RND = 0 ∧
      t.VALID = false ∧ t.EXH = false ∧ t.BUSY = false ∧ t.LAST_ERR = .ok ∧
      t.RSP_DATA = 0 ∧ t.RSP_DV = false ∧ t.RSP_ERR = .ok ∧ t.rspValid = false ∧ t.latch = Request.zero ∧
      t.kg = Generator.zero ∧ t.bench = Bench.zero ∧
      s.cmdReady true = false ∧ t.cmdReady false = true ∧
      t.cfg = s.cfg ∧ t.pins = s.pins ∧ t.host = rest

/-- R251 (derived in the spec): after reset the core is in the NONE phase, `status` shows only the hook, `ctr_out` is 0. -/
def Obligations.HostViewAfterReset : Prop :=
  ∀ c : Config, (State.resetWith c).phase = .none ∧ (State.resetWith c).ctrOut = 0 ∧
    (State.resetWith c).response = { data := 0, dv := false, err := .ok } ∧
    (State.resetWith c).status = (if c.hasTestHook then 0x00000008 else 0x00000000)

/-! ### Commands -/

/-- R226: an illegal word, and the SETCTR word on a part without the hook, completes with IllegalCommand and changes
nothing else, in every phase. -/
def Obligations.IllegalWordOnlyResponds : Prop :=
  ∀ (s : State) (w : BitVec 32) (rest : List HostMove), s.host = .issue w :: rest → s.BUSY = false →
    ((∃ why, decode w = .illegal why) ∨ (w = 0x00000005 ∧ s.cfg.hasTestHook = false)) →
    ∃ t, step s = .next t ∧ Responded t 0x00 false .illegalCommand ∧ SessionKept s t ∧ GeneratorKept s t ∧
      t.cfg = s.cfg ∧ t.pins = s.pins ∧ t.host = rest ∧ t.bench = s.dropPulses.bench

/-- R181: NOP completes without error and changes no other state. -/
def Obligations.NopOnlyResponds : Prop :=
  ∀ s : State, ∃ t, exec .nop s = .next t ∧ Responded t 0x00 false .ok ∧
    SessionKept s t ∧ GeneratorKept s t ∧ OutsideKept s t

/-- R182: with a key of 16 or 32 bytes, a nonce of 8 and a positive even round count, INIT creates the session that State
Setup and the keystream generator give, replacing any earlier one. -/
def Obligations.InitCreatesTheSession : Prop :=
  ∀ s : State, (s.latch.ops.keyLen = 16 ∨ s.latch.ops.keyLen = 32) → s.latch.ops.nonceLen = 8 →
    s.latch.ops.roundsIn ≠ 0 → s.latch.ops.roundsIn.toNat % 2 = 0 →
    ∃ t S' b, setup s.latch.ops.keyIn s.latch.ops.keyLen s.latch.ops.nonceIn s.latch.ops.nonceLen = .ok S' ∧
      ksgen S' s.latch.ops.roundsIn = .ok b ∧ exec .init s = .next t ∧
      t.S = S' ∧ t.KS = b ∧ t.RND = s.latch.ops.roundsIn ∧ t.CUR = 0 ∧ t.EXH = false ∧ t.VALID = true ∧
      Responded t 0x00 false .ok ∧ OutsideKept s t

/-- R222, R183, R225: a failed INIT reports the first of its errors, in the order key length, nonce length, round count,
leaves no session and zeroes all session state, whether or not a session existed. That the generator's output registers, its
done and error outputs among them, are zero with its working state is the model's reading (log entry 11). -/
def Obligations.FailedInitLeavesNoSession : Prop :=
  ∀ s : State,
    ∀ e : ErrKind,
      (if s.latch.ops.keyLen ≠ 16 ∧ s.latch.ops.keyLen ≠ 32 then e = .invalidKeyLength
       else if s.latch.ops.nonceLen ≠ 8 then e = .invalidNonceLength
       else (s.latch.ops.roundsIn = 0 ∨ s.latch.ops.roundsIn.toNat % 2 = 1) ∧ e = .invalidRoundCount) →
      ∃ t, exec .init s = .next t ∧ Responded t 0x00 false e ∧ t.VALID = false ∧
        (∀ k : Fin 16, t.S[k] = 0) ∧ (∀ j : Fin 64, t.KS[j] = 0) ∧ t.CUR = 0 ∧ t.RND = 0 ∧ t.EXH = false ∧
        t.kg = Generator.zero ∧ OutsideKept s t

/-- R183, R195: the session an INIT leaves, and its response, depend on its sampled operands alone. -/
def Obligations.InitForgetsThePast : Prop :=
  ∀ s t : State, s.latch.ops = t.latch.ops →
    ∃ s' t', exec .init s = .next s' ∧ exec .init t = .next t' ∧ SessionKept s' t' ∧ s'.response = t'.response

/-- R75: with `key_len = 16` the upper half of `key_in` has no effect: INIT leaves the same session registers, response,
generator and everything outside. -/
def Obligations.ShortKeyIgnoresTheUpperHalf : Prop :=
  ∀ (s : State) (o : Operands) (k : BitVec 256), o.keyLen = 16 → k.extractLsb' 0 128 = o.keyIn.extractLsb' 0 128 →
    ∃ t u, exec .init { s with latch := { s.latch with ops := o } } = .next t ∧
      exec .init { s with latch := { s.latch with ops := { o with keyIn := k } } } = .next u ∧
      SessionKept t u ∧ GeneratorKept t u ∧ OutsideKept t u ∧ u.response = t.response ∧ u.LAST_ERR = t.LAST_ERR ∧
      u.BUSY = t.BUSY ∧ u.rspValid = t.rspValid

/-- R184: inside a block PBYTE returns the input byte exclusive-or the keystream byte at the cursor and advances the
cursor; no other session register, nor the generator, nor anything outside changes. -/
def Obligations.PbyteInsideABlock : Prop :=
  ∀ (s : State) (din : Byte), s.VALID = true → s.EXH = false → s.CUR ≠ 63 →
    ∃ t, exec (.pbyte din) s = .next t ∧ Responded t (din ^^^ s.KS[s.CUR.toNat]) true .ok ∧
      t.CUR = s.CUR + 1 ∧ t.S = s.S ∧ t.KS = s.KS ∧ t.RND = s.RND ∧ t.VALID = true ∧ t.EXH = false ∧
      GeneratorKept s t ∧ OutsideKept s t

/-- R184, R185: at the block boundary PBYTE returns its byte, wraps the cursor and steps the 64-bit counter, the carry
passing from word 8 into word 9; unless the counter overflows the block is regenerated with the new counter; if it does, the
session is exhausted, the byte is still valid and the block is left as it was. (`RND` is valid: R32.) -/
def Obligations.PbyteAtTheBlockBoundary : Prop :=
  ∀ (s : State) (din : Byte), s.VALID = true → s.EXH = false → s.CUR = 63 → roundsOk s.RND = true →
    ∃ t, exec (.pbyte din) s = .next t ∧ t.CUR = 0 ∧ t.RND = s.RND ∧ t.VALID = true ∧
      ctrOf t.S = ctrOf s.S + 1 ∧ KeyPartKept s.S t.S ∧ OutsideKept s t ∧
      (ctrOf s.S ≠ 0xFFFFFFFFFFFFFFFF →
        Responded t (din ^^^ s.KS[63]) true .ok ∧ t.EXH = false ∧ ksgen t.S t.RND = .ok t.KS) ∧
      (ctrOf s.S = 0xFFFFFFFFFFFFFFFF →
        Responded t (din ^^^ s.KS[63]) true .nonceLimitExceeded ∧ t.EXH = true ∧ t.KS = s.KS ∧ ctrOf t.S = 0 ∧
        GeneratorKept s t)

/-- R186: on an exhausted session PBYTE gives no byte and changes nothing but the response, and of all operations only
RESET, INIT, WIPE and (where present) SETCTR leave the EXHAUSTED phase, and so does the hardware reset. -/
def Obligations.ExhaustedSessionRefusesBytes : Prop :=
  (∀ (s : State) (din : Byte), s.VALID = true → s.EXH = true →
    ∃ t, exec (.pbyte din) s = .next t ∧ Responded t 0x00 false .nonceLimitExceeded ∧
      SessionKept s t ∧ GeneratorKept s t ∧ OutsideKept s t) ∧
  (∀ (s t : State) (i : Instr), s.phase = .exhausted → exec i s = .next t →
    (i ≠ .reset → i ≠ .init → i ≠ .wipe → (i = .setctr → s.cfg.hasTestHook = false) → t.phase = .exhausted) ∧
    (i = .reset ∨ i = .init ∨ i = .wipe ∨ (i = .setctr ∧ s.cfg.hasTestHook = true) → t.phase ≠ .exhausted)) ∧
  (∀ s : State, s.hardReset.phase = .none)

/-- R227: without a session PBYTE, RESET and SETCTR answer NoSession and change nothing else; NOP, INIT and WIPE never
raise it. -/
def Obligations.CommandsThatNeedASession : Prop :=
  (∀ (s : State) (i : Instr), s.VALID = false →
    (∃ din, i = .pbyte din) ∨ i = .reset ∨ (i = .setctr ∧ s.cfg.hasTestHook = true) →
    ∃ t, exec i s = .next t ∧ Responded t 0x00 false .noSession ∧
      SessionKept s t ∧ GeneratorKept s t ∧ OutsideKept s t) ∧
  (∀ (s t : State) (i : Instr), i = .nop ∨ i = .init ∨ i = .wipe → exec i s = .next t → t.RSP_ERR ≠ .noSession)

/-- R187: RESET sets the counter to 0, the cursor to 0, clears exhaustion and regenerates the block from the unchanged key
part; without a session it answers NoSession. (`RND` is valid: R32.) -/
def Obligations.ResetRestartsTheStream : Prop :=
  (∀ s : State, s.VALID = true → roundsOk s.RND = true →
    ∃ t, exec .reset s = .next t ∧ t.S[8] = 0 ∧ t.S[9] = 0 ∧ KeyPartKept s.S t.S ∧ t.CUR = 0 ∧ t.EXH = false ∧
      ksgen t.S t.RND = .ok t.KS ∧ t.RND = s.RND ∧ t.VALID = true ∧
      Responded t 0x00 false .ok ∧ OutsideKept s t) ∧
  (∀ s : State, s.VALID = false →
    ∃ t, exec .reset s = .next t ∧ Responded t 0x00 false .noSession ∧
      SessionKept s t ∧ GeneratorKept s t ∧ OutsideKept s t)

/-- R188, R63: WIPE zeroes every session register and the integrated generator with its engine, in every phase. That the
generator's output registers, its done and error outputs among them, are zero with its working state is the model's reading
(log entry 11); the modules at their own ports are no part of the core's session and stay (log entry 6). -/
def Obligations.WipeZeroesEverything : Prop :=
  ∀ s : State, ∃ t, exec .wipe s = .next t ∧ (∀ k : Fin 16, t.S[k] = 0) ∧ (∀ j : Fin 64, t.KS[j] = 0) ∧
    t.CUR = 0 ∧ t.RND = 0 ∧ t.EXH = false ∧ t.VALID = false ∧ t.kg = Generator.zero ∧
    Responded t 0x00 false .ok ∧ OutsideKept s t

/-- R189: with the hook SETCTR sets both counter words from the sampled `ctr_in`, the cursor to 0, clears exhaustion and
regenerates the block; without the hook it is illegal; without a session it answers NoSession. (`RND` is valid: R32.) -/
def Obligations.SetctrMovesTheCounter : Prop :=
  (∀ s : State, s.cfg.hasTestHook = true → s.VALID = true → roundsOk s.RND = true →
    ∃ t, exec .setctr s = .next t ∧ t.S[8] = s.latch.ops.ctrIn.extractLsb' 0 32 ∧
      t.S[9] = s.latch.ops.ctrIn.extractLsb' 32 32 ∧ KeyPartKept s.S t.S ∧ t.CUR = 0 ∧ t.EXH = false ∧
      ksgen t.S t.RND = .ok t.KS ∧ t.RND = s.RND ∧ t.VALID = true ∧
      Responded t 0x00 false .ok ∧ OutsideKept s t) ∧
  (∀ s : State, s.cfg.hasTestHook = false →
    ∃ t, exec .setctr s = .next t ∧ Responded t 0x00 false .illegalCommand ∧
      SessionKept s t ∧ GeneratorKept s t ∧ OutsideKept s t) ∧
  (∀ s : State, s.cfg.hasTestHook = true → s.VALID = false →
    ∃ t, exec .setctr s = .next t ∧ Responded t 0x00 false .noSession ∧
      SessionKept s t ∧ GeneratorKept s t ∧ OutsideKept s t)

/-- R189 (derived in the spec): on a part with the hook, SETCTR with `c = 0` is RESET. -/
def Obligations.SetctrZeroIsReset : Prop :=
  ∀ s : State, s.cfg.hasTestHook = true → s.latch.ops.ctrIn = 0 → exec .setctr s = exec .reset s

/-- R56 (derived in the spec): NOP, WIPE and, on a live session, RESET leave the registers of 10_state.md the same when
done twice as when done once. -/
def Obligations.IdempotentCommands : Prop :=
  ∀ (s : State) (i : Instr), i = .nop ∨ i = .wipe ∨ (i = .reset ∧ s.VALID = true ∧ roundsOk s.RND = true) →
    ∃ t u, exec i s = .next t ∧ exec i t = .next u ∧ SessionKept t u ∧ u.response = t.response ∧
      u.LAST_ERR = t.LAST_ERR ∧ u.BUSY = t.BUSY

/-! ### Rules of the whole machine -/

/-- R22: the words 0..7 and 10..15 of `S` are written by no operation but INIT and WIPE, and the counter words by none but
INIT, PBYTE, RESET, SETCTR and WIPE. -/
def Obligations.OnlyInitAndWipeWriteTheKeyPart : Prop :=
  ∀ (s t : State) (i : Instr), exec i s = .next t →
    (i ≠ .init → i ≠ .wipe → KeyPartKept s.S t.S) ∧
    (i ≠ .init → i ≠ .wipe → i ≠ .reset → i ≠ .setctr → (∀ din, i ≠ .pbyte din) → t.S = s.S)

/-- D45, 90 C5: but for INIT, RESET, SETCTR and WIPE, no operation lowers the counter, unless it exhausts the session. -/
def Obligations.CounterNeverFalls : Prop :=
  ∀ (s t : State) (i : Instr), i ≠ .init → i ≠ .reset → i ≠ .setctr → i ≠ .wipe → exec i s = .next t →
    (ctrOf s.S).toNat ≤ (ctrOf t.S).toNat ∨ (t.EXH = true ∧ ctrOf s.S = 0xFFFFFFFFFFFFFFFF)

/-- R33: what the host sees of a command (response, `status`, `ctr_out`) depends only on what it saw before, on the
operands and on the one keystream byte at the cursor: nothing else of the key, the nonce, the constants, the block or the
round count shows. -/
def Obligations.HostSeesNoKeyMaterial : Prop :=
  ∀ (s t s' t' : State) (i : Instr), i.isCommand = true → s.status = t.status → s.ctrOut = t.ctrOut →
    s.latch.ops = t.latch.ops → s.KS[s.CUR.toNat] = t.KS[t.CUR.toNat] →
    exec i s = .next s' → exec i t = .next t' →
    s'.response = t'.response ∧ s'.status = t'.status ∧ s'.ctrOut = t'.ctrOut

/-- R32 (derived in the spec), at reset. -/
def Obligations.SessionInvariantAtReset : Prop :=
  ∀ c : Config, SessionInv (State.resetWith c)

/-- R32 (derived in the spec): every step keeps the four session invariants. -/
def Obligations.SessionInvariantKept : Prop :=
  ∀ s t : State, SessionInv s → step s = .next t → SessionInv t

/-- R30, R63, R80, R228 and log entries 5 and 11, at reset. -/
def Obligations.PortInvariantAtReset : Prop :=
  ∀ c : Config, PortInv (State.resetWith c)

/-- R30, R63, R80, R228: every step keeps the invariants of the response registers and the inner modules. The model's
choices among them: the copy of the operands is released at completion (log entry 5); the integrated generator is at rest
in every state and, its done and error outputs included, zero without a session (log entry 11). -/
def Obligations.PortInvariantKept : Prop :=
  ∀ s t : State, PortInv s → step s = .next t → PortInv t

/-! ### Views -/

/-- R78, R77: the fields of the status word and the numbers of the error codes. -/
def Obligations.StatusWordLayout : Prop :=
  (∀ s : State,
    s.status.getLsbD 0 = s.BUSY ∧ s.status.getLsbD 1 = s.VALID ∧ s.status.getLsbD 2 = s.EXH ∧
    s.status.getLsbD 3 = s.cfg.hasTestHook ∧ s.status.extractLsb' 4 6 = s.CUR ∧
    s.status.extractLsb' 10 3 = s.LAST_ERR.code ∧ s.status.extractLsb' 13 19 = 0) ∧
  ErrKind.ok.code = 0 ∧ ErrKind.invalidKeyLength.code = 1 ∧ ErrKind.invalidNonceLength.code = 2 ∧
  ErrKind.invalidRoundCount.code = 3 ∧ ErrKind.malformedState.code = 4 ∧ ErrKind.nonceLimitExceeded.code = 5 ∧
  ErrKind.noSession.code = 6 ∧ ErrKind.illegalCommand.code = 7

/-- R79, R22: `ctr_out` is the 64-bit number with high half `S[9]` and low half `S[8]`; without a session it reads 0
(there, by R32). -/
def Obligations.CounterReadout : Prop :=
  (∀ s : State, s.ctrOut.toNat = s.S[9].toNat * 4294967296 + s.S[8].toNat) ∧
  (∀ s : State, SessionInv s → s.VALID = false → s.ctrOut = 0)

/-- R76 (derived in the spec): word `i` of a state stands at bits [32i+31:32i] of its bus, byte `j` of a block at
[8j+7:8j], and a state and the block it serializes to are the same 512 bits. -/
def Obligations.BusLayoutsAgree : Prop :=
  (∀ (x : Words16) (i : Fin 16), (wordsBus x).extractLsb' (32 * i.val) 32 = x[i]) ∧
  (∀ (b : Block64) (j : Fin 64), (blockBus b).extractLsb' (8 * j.val) 8 = b[j]) ∧
  (∀ x : Words16, wordsBus x = blockBus (serialize x))

/-! ### The inner modules -/

/-- R100, R102 (derived in the spec): bit `i` of the mixer's output is bit `(i - rot) mod 32` of `b + c`; nothing else
changes. -/
def Obligations.MixRotatesTheSum : Prop :=
  ∀ (s : State) (b c : Word) (rot : BitVec 5),
    ∃ m, exec (.mix b c rot) s = .next { s with bench := { s.bench with mix := m } } ∧
      ∀ i < 32, m.getLsbD i = (b + c).getLsbD ((i + 32 - rot.toNat) % 32)

/-- R103: the four steps of the quarter-round, each using the word the step before wrote; nothing else changes. -/
def Obligations.QroundSteps : Prop :=
  ∀ (s : State) (a b c d : Word),
    ∃ q : Quad, exec (.qround a b c d) s = .next { s with bench := { s.bench with z := q } } ∧
      q.b = b ^^^ (a + d).rotateLeft 7 ∧ q.c = c ^^^ (q.b + a).rotateLeft 9 ∧
      q.d = d ^^^ (q.c + q.b).rotateLeft 13 ∧ q.a = a ^^^ (q.d + q.c).rotateLeft 18

/-- R103 (derived in the spec): the quarter-round is a bijection on groups of four words. -/
def Obligations.QroundIsABijection : Prop :=
  Function.Bijective fun q : Quad => qround q.a q.b q.c q.d

/-- R120, R121: the groups of the column round and of the row round, each a quarter-round in the listed order; nothing
else changes; the all-zero state is fixed. -/
def Obligations.ColumnAndRowRoundGroups : Prop :=
  (∀ (s : State) (x : Words16),
    ∃ y : Words16, exec (.colround x) s = .next { s with bench := { s.bench with y := y } } ∧
      Quad.mk y[0] y[4] y[8] y[12] = qround x[0] x[4] x[8] x[12] ∧
      Quad.mk y[5] y[9] y[13] y[1] = qround x[5] x[9] x[13] x[1] ∧
      Quad.mk y[10] y[14] y[2] y[6] = qround x[10] x[14] x[2] x[6] ∧
      Quad.mk y[15] y[3] y[7] y[11] = qround x[15] x[3] x[7] x[11]) ∧
  (∀ (s : State) (x : Words16),
    ∃ y : Words16, exec (.rowround x) s = .next { s with bench := { s.bench with y := y } } ∧
      Quad.mk y[0] y[1] y[2] y[3] = qround x[0] x[1] x[2] x[3] ∧
      Quad.mk y[5] y[6] y[7] y[4] = qround x[5] x[6] x[7] x[4] ∧
      Quad.mk y[10] y[11] y[8] y[9] = qround x[10] x[11] x[8] x[9] ∧
      Quad.mk y[15] y[12] y[13] y[14] = qround x[15] x[12] x[13] x[14]) ∧
  colround zeroWords = zeroWords

/-- R122: the double-round is one column round followed by one row round. -/
def Obligations.DoubleRoundIsColumnThenRow : Prop :=
  ∀ (s : State) (x : Words16),
    ∃ u v, exec (.colround x) s = .next u ∧ exec (.rowround u.bench.y) u = .next v ∧ exec (.dround x) s = .next v

/-- R123, R126: an idle engine ends an operation with one done pulse: for a positive even `R` with `R/2` double-rounds of
the input, for 0 and odd `R` with `InvalidRoundCount`; nothing but the engine changes. A start while busy is ignored. (The
engine is an instance of its own: log entry 6.) -/
def Obligations.PermuteRunsHalfTheRounds : Prop :=
  (∀ (s : State) (x : Words16) (R : Word), s.bench.pe.busy = false →
    ∃ e n, exec (.permute x R) s = .next { s with bench := { s.bench with pe := e }, draws := n } ∧
      e.busy = false ∧ e.done = true ∧
      (R ≠ 0 → R.toNat % 2 = 0 → e.err = .ok ∧ e.stateOut = dround^[R.toNat / 2] x) ∧
      (R = 0 ∨ R.toNat % 2 = 1 → e.err = .invalidRoundCount)) ∧
  (∀ (s : State) (x : Words16) (R : Word), s.bench.pe.busy = true → exec (.permute x R) s = .next s)

/-- R125 (derived in the spec): for each valid `R`, PERMUTE is a bijection on 16-word states. -/
def Obligations.PermuteIsABijection : Prop :=
  ∀ R : Word, roundsOk R = true → ∀ y : Words16, ∃! x : Words16, permute x R = .ok y

/-- R141, R142: SETUP fails with InvalidKeyLength unless the key is exactly 16 or 32 bytes, and then with
InvalidNonceLength unless the nonce is exactly 8 bytes; the key check comes first. -/
def Obligations.SetupChecksTheLengths : Prop :=
  ∀ (s : State) (k : BitVec 256) (kl : Byte) (n : BitVec 64) (nl : Byte),
    ∃ r, exec (.setup k kl n nl) s = .next { s with bench := { s.bench with setup := r } } ∧
      (r = .err .invalidKeyLength ↔ kl ≠ 16 ∧ kl ≠ 32) ∧
      (r = .err .invalidNonceLength ↔ (kl = 16 ∨ kl = 32) ∧ nl ≠ 8) ∧
      ((∃ x, r = .ok x) ↔ (kl = 16 ∨ kl = 32) ∧ nl = 8)

/-- R140, R143 to R147, R149, R52: where the bytes of the constant string, the key, the nonce and the counter go, as
32-bit little-endian slices of the ports. -/
def Obligations.SetupPlacesKeyNonceAndConstants : Prop :=
  ∀ (s : State) (k : BitVec 256) (kl : Byte) (n : BitVec 64), kl = 16 ∨ kl = 32 →
    ∃ x : Words16, exec (.setup k kl n 8) s = .next { s with bench := { s.bench with setup := .ok x } } ∧
      x[0] = 0x61707865 ∧ x[15] = 0x6b206574 ∧
      (kl = 32 → x[5] = 0x3320646e ∧ x[10] = 0x79622d32) ∧ (kl = 16 → x[5] = 0x3120646e ∧ x[10] = 0x79622d36) ∧
      (∀ i : Fin 4, x[1 + i.val] = k.extractLsb' (32 * i.val) 32) ∧
      (∀ i : Fin 4, kl = 32 → x[11 + i.val] = k.extractLsb' (128 + 32 * i.val) 32) ∧
      (∀ i : Fin 4, kl = 16 → x[11 + i.val] = k.extractLsb' (32 * i.val) 32) ∧
      (∀ i : Fin 2, x[6 + i.val] = n.extractLsb' (32 * i.val) 32) ∧ x[8] = 0 ∧ x[9] = 0

/-- R160, R161, R164, R165, R166: an idle generator ends an operation with one done pulse: for a valid `R` with the block
whose byte `j` is byte `j mod 4` of `p[j div 4] + x[j div 4]`, `p` the permuted state; for 0 and odd `R` with
`InvalidRoundCount`; nothing but the generator changes. A start while busy is ignored. (The generator is an instance of its
own: log entry 6.) -/
def Obligations.KsgenSerializesTheAddBack : Prop :=
  (∀ (s : State) (x : Words16) (R : Word), s.bench.kg.busy = false →
    ∃ g n, exec (.ksgen x R) s = .next { s with bench := { s.bench with kg := g }, draws := n } ∧
      g.busy = false ∧ g.done = true ∧
      (∀ p, permute x R = .ok p → g.err = .ok ∧
        ∀ j : Fin 64, g.block[j] = (p[j.val / 4] + x[j.val / 4]).extractLsb' (8 * (j.val % 4)) 8) ∧
      (R = 0 ∨ R.toNat % 2 = 1 → g.err = .invalidRoundCount)) ∧
  (∀ (s : State) (x : Words16) (R : Word), s.bench.kg.busy = true → exec (.ksgen x R) s = .next s)

/-- R126, R166, R261: inputs are sampled at the start edge, a start while busy is ignored, waiting ends with the done pulse
carrying the operation of the sampled inputs, the pulse lasts one cycle, and the hardware reset abandons the operation. -/
def Obligations.EngineHandshake : Prop :=
  ∀ (s : State) (x y : Words16) (R Q : Word) (p : Words16), s.BUSY = false → s.bench.pe.busy = false →
    permute x R = .ok p →
    ∃ a b c d e,
      step { s with host := [.peStart x R, .peStart y Q, .wait, .idle] } = .next a ∧ a.bench.pe.busy = true ∧
        a.bench.pe.done = false ∧
      step a = .next b ∧ b.bench.pe = a.bench.pe ∧
      step b = .next c ∧ c.bench.pe.busy = false ∧ c.bench.pe.done = true ∧ c.bench.pe.err = .ok ∧
        c.bench.pe.stateOut = p ∧
      step c = .next d ∧ d.bench.pe.done = false ∧ d.bench.pe.stateOut = p ∧
      step { a with host := [.rst] } = .next e ∧ e.bench.pe = Engine.zero

/-- R166, R261, R250: the same of the keystream generator at its own ports. -/
def Obligations.GeneratorHandshake : Prop :=
  ∀ (s : State) (x y : Words16) (R Q : Word) (k : Block64), s.BUSY = false → s.bench.kg.busy = false →
    ksgen x R = .ok k →
    ∃ a b c d e,
      step { s with host := [.kgStart x R, .kgStart y Q, .wait, .idle] } = .next a ∧ a.bench.kg.busy = true ∧
        a.bench.kg.done = false ∧
      step a = .next b ∧ b.bench.kg = a.bench.kg ∧
      step b = .next c ∧ c.bench.kg.busy = false ∧ c.bench.kg.done = true ∧ c.bench.kg.err = .ok ∧
        c.bench.kg.block = k ∧
      step c = .next d ∧ d.bench.kg.done = false ∧ d.bench.kg.block = k ∧
      step { a with host := [.rst] } = .next e ∧ e.bench.kg = Generator.zero

/-! ### The stream -/

/-- R191: after a successful INIT, and after a RESET of a live session, the session stands at position 0 of its stream.
(`RND` is valid: R32.) -/
def Obligations.InitAndResetStartTheStream : Prop :=
  (∀ s t : State, exec .init s = .next t → t.RSP_ERR = .ok → AtPosition t.S s.latch.ops.roundsIn 0 t) ∧
  (∀ s t : State, s.VALID = true → roundsOk s.RND = true → exec .reset s = .next t → AtPosition s.S s.RND 0 t)

/-- R191, R192 (derived in the spec): from position `n` of a stream, bytes short of the limit of 2^70 come out
exclusive-ored with the stream's bytes from `n` on, without error, and leave the session at the position after them. -/
def Obligations.StreamFollowsThePosition : Prop :=
  ∀ (K : Words16) (R : Word) (n : Nat) (s : State) (bs : List Byte), AtPosition K R n s → n + bs.length < streamLimit →
    (pbytes bs s).out = cipherBytes K R n bs ∧ (pbytes bs s).err = .ok ∧
    AtPosition K R (n + bs.length) (pbytes bs s).state

/-- R192, R223, R83 (derived in the spec): bytes that reach the limit come out up to it, the last with
NonceLimitExceeded, and leave the session exhausted with counter and cursor 0. -/
def Obligations.StreamStopsAtTheLimit : Prop :=
  ∀ (K : Words16) (R : Word) (n : Nat) (s : State) (bs : List Byte), AtPosition K R n s → n < streamLimit →
    streamLimit ≤ n + bs.length →
    (pbytes bs s).out = cipherBytes K R n (bs.take (streamLimit - n)) ∧
    (pbytes bs s).err = .nonceLimitExceeded ∧
    (pbytes bs s).state.phase = .exhausted ∧ (pbytes bs s).state.CUR = 0 ∧ ctrOf (pbytes bs s).state.S = 0

/-- R193 (derived in the spec): after a successful INIT the first 64 bytes of zeros come out as the generated block, and
leave counter 1 and cursor 0. -/
def Obligations.FirstBlockLaw : Prop :=
  ∀ s t : State, exec .init s = .next t → t.RSP_ERR = .ok →
    (pbytes (List.replicate 64 0) t).out = t.KS.toList ∧ (pbytes (List.replicate 64 0) t).err = .ok ∧
    ctrOf (pbytes (List.replicate 64 0) t).state.S = 1 ∧ (pbytes (List.replicate 64 0) t).state.CUR = 0

/-- R190: decryption is encryption: on two sessions with the same registers and no command in flight, what one made of a
message the other turns back into the message, as far as it got. (`RND` is valid: R32.) -/
def Obligations.DecryptionIsEncryption : Prop :=
  ∀ (s t : State) (m : List Byte), SessionKept s t → s.BUSY = false → t.BUSY = false → roundsOk s.RND = true →
    (pbytes (pbytes m s).out t).out = m.take (pbytes m s).out.length

/-- R196 (derived in the spec): after any bytes of a session that stood at counter 0 and cursor 0, with no command in flight,
RESET restores its registers, and the same bytes come out again. -/
def Obligations.ResetReproducesTheStream : Prop :=
  ∀ (s : State) (bs cs : List Byte), SessionInv s → s.BUSY = false → s.phase = .fresh → ctrOf s.S = 0 →
    (pbytes bs s).state.BUSY = false ∧
    ∃ t, exec .reset (pbytes bs s).state = .next t ∧ SessionKept s t ∧ t.BUSY = false ∧
      (pbytes cs t).out = (pbytes cs s).out

/-- R81: byte `k` of the key and nonce strings is byte `k` of its port and missing bytes are 0; the lengths and the round
count are those the line gives, and where it gives none, the lengths of the strings and 20. -/
def Obligations.InitTextDrivesThePorts : Prop :=
  ∀ (key nonce : List Byte) (rounds klen nlen : Option Nat), (AsmLine.init key nonce rounds klen nlen).wf = true →
    (∀ k : Fin 32, (initOperands key nonce rounds klen nlen).keyIn.extractLsb' (8 * k.val) 8 = key.getD k.val 0) ∧
    (∀ k : Fin 8, (initOperands key nonce rounds klen nlen).nonceIn.extractLsb' (8 * k.val) 8 = nonce.getD k.val 0) ∧
    (initOperands key nonce rounds klen nlen).keyLen.toNat = klen.getD key.length ∧
    (initOperands key nonce rounds klen nlen).nonceLen.toNat = nlen.getD nonce.length ∧
    (initOperands key nonce rounds klen nlen).roundsIn.toNat = rounds.getD 20

/-! ### Holding -/

/-- R238, R254: with no command in flight and none presented the core holds its state: a step with no move left, a wait, an
idle edge and a step that drives ports keep the session registers, the integrated generator and the response; so do idle
edges and driven ports with a command in flight, an accepting edge, and what is done at the modules' own ports. -/
def Obligations.StepsWithoutACompletionHold : Prop :=
  ∀ s : State,
    (s.BUSY = false ∧ (s.host = [] ∨ s.host.head? = some .wait ∨ ∃ w, s.host.head? = some (.accept w))) ∨
    s.host.head? = some .idle ∨ (∃ p, s.host.head? = some (.drive p)) ∨
    (∃ x R, s.host.head? = some (.peStart x R) ∨ s.host.head? = some (.kgStart x R)) ∨
    (∃ i, s.host.head? = some (.op i) ∧ i.isPort = true) →
    ∃ t, step s = .next t ∧ SessionKept s t ∧ t.kg = s.kg ∧ t.response = s.response ∧ t.LAST_ERR = s.LAST_ERR ∧
      t.cfg = s.cfg
end

