-- ==== Sys2Proof/Laws/Decode.lean ====
section
/-! SUPPORT. The decoder as one chain of tests (45 R194), and the words that decode. -/

namespace Sys2Proof

theorem and_all_ones (w : BitVec 32) : w &&& 0xFFFFFFFF = w := BitVec.and_allOnes

/-- The decoder tests the rows of R73 in the order of R194. -/
theorem decode_eq (w : BitVec 32) :
    decode w =
      if w = 0 then .instr .nop else if w = 1 then .instr .init
      else if w &&& 0xFFFF00FF = 2 then .instr (.pbyte (dataField w))
      else if w = 3 then .instr .reset else if w = 4 then .instr .wipe else if w = 5 then .instr .setctr
      else .illegal (illegalReason w) := by
  unfold decode
  simp only [cmdRows, List.find?, CmdRow.hits, and_all_ones]
  by_cases h0 : w = 0
  · simp [h0]
  · by_cases h1 : w = 1
    · simp [h1]
    · by_cases h2 : w &&& 0xFFFF00FF = 2
      · rw [beq_eq_false_iff_ne.mpr h0, beq_eq_false_iff_ne.mpr h1, beq_iff_eq.mpr h2, if_neg h0, if_neg h1, if_pos h2]
      · by_cases h3 : w = 3
        · simp [h3]
        · by_cases h4 : w = 4
          · simp [h4]
          · by_cases h5 : w = 5
            · simp [h5]
            · rw [beq_eq_false_iff_ne.mpr h0, beq_eq_false_iff_ne.mpr h1, beq_eq_false_iff_ne.mpr h2,
                beq_eq_false_iff_ne.mpr h3, beq_eq_false_iff_ne.mpr h4, beq_eq_false_iff_ne.mpr h5, if_neg h0, if_neg h1,
                if_neg h2, if_neg h3, if_neg h4, if_neg h5]

/-- Only commands have words (R84). -/
theorem decode_isCommand {w : BitVec 32} {i : Instr} (h : decode w = .instr i) : i.isCommand = true := by
  rw [decode_eq] at h
  repeat' split at h
  all_goals cases h
  all_goals rfl

/-- The word of a PBYTE: its row and its byte determine it (R72, R184). -/
theorem pbyte_word (w : BitVec 32) (h : w &&& 0xFFFF00FF = 2) : 2#32 ||| ((dataField w).setWidth 32 <<< 8) = w := by
  apply BitVec.eq_of_getLsbD_eq
  intro i hi
  have hb := congrArg (fun v => BitVec.getLsbD v i) h
  simp only [BitVec.getLsbD_and] at hb
  simp only [dataField]
  interval_cases i <;> simp_all

end Sys2Proof
end

