-- ==== Sys2Proof/Laws/State.lean ====
section
/-! SUPPORT. One lemma per field and update of State: what each shared operation leaves in each register. -/

namespace Sys2Proof.Machine

variable (s : State)

/-! ### Completing a command (R180) -/

@[simp] theorem State.complete_cfg (d : Byte) (dv : Bool) (e : ErrKind) : (s.complete d dv e).cfg = s.cfg := rfl
@[simp] theorem State.complete_S (d : Byte) (dv : Bool) (e : ErrKind) : (s.complete d dv e).S = s.S := rfl
@[simp] theorem State.complete_KS (d : Byte) (dv : Bool) (e : ErrKind) : (s.complete d dv e).KS = s.KS := rfl
@[simp] theorem State.complete_CUR (d : Byte) (dv : Bool) (e : ErrKind) : (s.complete d dv e).CUR = s.CUR := rfl
@[simp] theorem State.complete_RND (d : Byte) (dv : Bool) (e : ErrKind) : (s.complete d dv e).RND = s.RND := rfl
@[simp] theorem State.complete_VALID (d : Byte) (dv : Bool) (e : ErrKind) : (s.complete d dv e).VALID = s.VALID := rfl
@[simp] theorem State.complete_EXH (d : Byte) (dv : Bool) (e : ErrKind) : (s.complete d dv e).EXH = s.EXH := rfl
@[simp] theorem State.complete_BUSY (d : Byte) (dv : Bool) (e : ErrKind) : (s.complete d dv e).BUSY = false := rfl
@[simp] theorem State.complete_LAST_ERR (d : Byte) (dv : Bool) (e : ErrKind) : (s.complete d dv e).LAST_ERR = e := rfl
@[simp] theorem State.complete_RSP_DATA (d : Byte) (dv : Bool) (e : ErrKind) : (s.complete d dv e).RSP_DATA = d := rfl
@[simp] theorem State.complete_RSP_DV (d : Byte) (dv : Bool) (e : ErrKind) : (s.complete d dv e).RSP_DV = dv := rfl
@[simp] theorem State.complete_RSP_ERR (d : Byte) (dv : Bool) (e : ErrKind) : (s.complete d dv e).RSP_ERR = e := rfl
@[simp] theorem State.complete_rspValid (d : Byte) (dv : Bool) (e : ErrKind) : (s.complete d dv e).rspValid = true := rfl
@[simp] theorem State.complete_latch (d : Byte) (dv : Bool) (e : ErrKind) : (s.complete d dv e).latch = Request.zero := rfl
@[simp] theorem State.complete_kg (d : Byte) (dv : Bool) (e : ErrKind) : (s.complete d dv e).kg = s.kg := rfl
@[simp] theorem State.complete_bench (d : Byte) (dv : Bool) (e : ErrKind) : (s.complete d dv e).bench = s.bench := rfl
@[simp] theorem State.complete_pins (d : Byte) (dv : Bool) (e : ErrKind) : (s.complete d dv e).pins = s.pins := rfl
@[simp] theorem State.complete_host (d : Byte) (dv : Bool) (e : ErrKind) : (s.complete d dv e).host = s.host := rfl
@[simp] theorem State.complete_draws (d : Byte) (dv : Bool) (e : ErrKind) : (s.complete d dv e).draws = s.draws := rfl

/-! ### Raising an error (R224) -/

@[simp] theorem State.raise_cfg (e : ErrKind) : (s.raise e).cfg = s.cfg := rfl
@[simp] theorem State.raise_S (e : ErrKind) : (s.raise e).S = s.S := rfl
@[simp] theorem State.raise_KS (e : ErrKind) : (s.raise e).KS = s.KS := rfl
@[simp] theorem State.raise_CUR (e : ErrKind) : (s.raise e).CUR = s.CUR := rfl
@[simp] theorem State.raise_RND (e : ErrKind) : (s.raise e).RND = s.RND := rfl
@[simp] theorem State.raise_VALID (e : ErrKind) : (s.raise e).VALID = s.VALID := rfl
@[simp] theorem State.raise_EXH (e : ErrKind) : (s.raise e).EXH = s.EXH := rfl
@[simp] theorem State.raise_BUSY (e : ErrKind) : (s.raise e).BUSY = false := rfl
@[simp] theorem State.raise_LAST_ERR (e : ErrKind) : (s.raise e).LAST_ERR = e := rfl
@[simp] theorem State.raise_RSP_DATA (e : ErrKind) : (s.raise e).RSP_DATA = 0x00 := rfl
@[simp] theorem State.raise_RSP_DV (e : ErrKind) : (s.raise e).RSP_DV = false := rfl
@[simp] theorem State.raise_RSP_ERR (e : ErrKind) : (s.raise e).RSP_ERR = e := rfl
@[simp] theorem State.raise_rspValid (e : ErrKind) : (s.raise e).rspValid = true := rfl
@[simp] theorem State.raise_latch (e : ErrKind) : (s.raise e).latch = Request.zero := rfl
@[simp] theorem State.raise_kg (e : ErrKind) : (s.raise e).kg = s.kg := rfl
@[simp] theorem State.raise_bench (e : ErrKind) : (s.raise e).bench = s.bench := rfl
@[simp] theorem State.raise_pins (e : ErrKind) : (s.raise e).pins = s.pins := rfl
@[simp] theorem State.raise_host (e : ErrKind) : (s.raise e).host = s.host := rfl
@[simp] theorem State.raise_draws (e : ErrKind) : (s.raise e).draws = s.draws := rfl

/-! ### Completing without error -/

@[simp] theorem State.finishOk_cfg : s.finishOk.cfg = s.cfg := rfl
@[simp] theorem State.finishOk_S : s.finishOk.S = s.S := rfl
@[simp] theorem State.finishOk_KS : s.finishOk.KS = s.KS := rfl
@[simp] theorem State.finishOk_CUR : s.finishOk.CUR = s.CUR := rfl
@[simp] theorem State.finishOk_RND : s.finishOk.RND = s.RND := rfl
@[simp] theorem State.finishOk_VALID : s.finishOk.VALID = s.VALID := rfl
@[simp] theorem State.finishOk_EXH : s.finishOk.EXH = s.EXH := rfl
@[simp] theorem State.finishOk_BUSY : s.finishOk.BUSY = false := rfl
@[simp] theorem State.finishOk_LAST_ERR : s.finishOk.LAST_ERR = .ok := rfl
@[simp] theorem State.finishOk_RSP_DATA : s.finishOk.RSP_DATA = 0x00 := rfl
@[simp] theorem State.finishOk_RSP_DV : s.finishOk.RSP_DV = false := rfl
@[simp] theorem State.finishOk_RSP_ERR : s.finishOk.RSP_ERR = .ok := rfl
@[simp] theorem State.finishOk_rspValid : s.finishOk.rspValid = true := rfl
@[simp] theorem State.finishOk_latch : s.finishOk.latch = Request.zero := rfl
@[simp] theorem State.finishOk_kg : s.finishOk.kg = s.kg := rfl
@[simp] theorem State.finishOk_bench : s.finishOk.bench = s.bench := rfl
@[simp] theorem State.finishOk_pins : s.finishOk.pins = s.pins := rfl
@[simp] theorem State.finishOk_host : s.finishOk.host = s.host := rfl
@[simp] theorem State.finishOk_draws : s.finishOk.draws = s.draws := rfl

/-! ### ZEROIZE (R188) -/

@[simp] theorem State.zeroize_cfg : s.zeroize.cfg = s.cfg := rfl
@[simp] theorem State.zeroize_S : s.zeroize.S = zeroWords := rfl
@[simp] theorem State.zeroize_KS : s.zeroize.KS = zeroBlock := rfl
@[simp] theorem State.zeroize_CUR : s.zeroize.CUR = 0 := rfl
@[simp] theorem State.zeroize_RND : s.zeroize.RND = 0 := rfl
@[simp] theorem State.zeroize_VALID : s.zeroize.VALID = false := rfl
@[simp] theorem State.zeroize_EXH : s.zeroize.EXH = false := rfl
@[simp] theorem State.zeroize_BUSY : s.zeroize.BUSY = s.BUSY := rfl
@[simp] theorem State.zeroize_LAST_ERR : s.zeroize.LAST_ERR = s.LAST_ERR := rfl
@[simp] theorem State.zeroize_RSP_DATA : s.zeroize.RSP_DATA = s.RSP_DATA := rfl
@[simp] theorem State.zeroize_RSP_DV : s.zeroize.RSP_DV = s.RSP_DV := rfl
@[simp] theorem State.zeroize_RSP_ERR : s.zeroize.RSP_ERR = s.RSP_ERR := rfl
@[simp] theorem State.zeroize_rspValid : s.zeroize.rspValid = s.rspValid := rfl
@[simp] theorem State.zeroize_latch : s.zeroize.latch = s.latch := rfl
@[simp] theorem State.zeroize_kg : s.zeroize.kg = Generator.zero := rfl
@[simp] theorem State.zeroize_bench : s.zeroize.bench = s.bench := rfl
@[simp] theorem State.zeroize_pins : s.zeroize.pins = s.pins := rfl
@[simp] theorem State.zeroize_host : s.zeroize.host = s.host := rfl
@[simp] theorem State.zeroize_draws : s.zeroize.draws = s.draws := rfl

/-! ### An operation of the integrated generator -/

@[simp] theorem State.useGenerator_cfg (x : Words16) (R : Word) : (s.useGenerator x R).cfg = s.cfg := rfl
@[simp] theorem State.useGenerator_S (x : Words16) (R : Word) : (s.useGenerator x R).S = s.S := rfl
@[simp] theorem State.useGenerator_KS (x : Words16) (R : Word) : (s.useGenerator x R).KS = s.KS := rfl
@[simp] theorem State.useGenerator_CUR (x : Words16) (R : Word) : (s.useGenerator x R).CUR = s.CUR := rfl
@[simp] theorem State.useGenerator_RND (x : Words16) (R : Word) : (s.useGenerator x R).RND = s.RND := rfl
@[simp] theorem State.useGenerator_VALID (x : Words16) (R : Word) : (s.useGenerator x R).VALID = s.VALID := rfl
@[simp] theorem State.useGenerator_EXH (x : Words16) (R : Word) : (s.useGenerator x R).EXH = s.EXH := rfl
@[simp] theorem State.useGenerator_BUSY (x : Words16) (R : Word) : (s.useGenerator x R).BUSY = s.BUSY := rfl
@[simp] theorem State.useGenerator_LAST_ERR (x : Words16) (R : Word) : (s.useGenerator x R).LAST_ERR = s.LAST_ERR := rfl
@[simp] theorem State.useGenerator_RSP_DATA (x : Words16) (R : Word) : (s.useGenerator x R).RSP_DATA = s.RSP_DATA := rfl
@[simp] theorem State.useGenerator_RSP_DV (x : Words16) (R : Word) : (s.useGenerator x R).RSP_DV = s.RSP_DV := rfl
@[simp] theorem State.useGenerator_RSP_ERR (x : Words16) (R : Word) : (s.useGenerator x R).RSP_ERR = s.RSP_ERR := rfl
@[simp] theorem State.useGenerator_rspValid (x : Words16) (R : Word) : (s.useGenerator x R).rspValid = s.rspValid := rfl
@[simp] theorem State.useGenerator_latch (x : Words16) (R : Word) : (s.useGenerator x R).latch = s.latch := rfl
@[simp] theorem State.useGenerator_kg (x : Words16) (R : Word) : (s.useGenerator x R).kg = s.kg.ran x R s.draws := rfl
@[simp] theorem State.useGenerator_bench (x : Words16) (R : Word) : (s.useGenerator x R).bench = s.bench := rfl
@[simp] theorem State.useGenerator_pins (x : Words16) (R : Word) : (s.useGenerator x R).pins = s.pins := rfl
@[simp] theorem State.useGenerator_host (x : Words16) (R : Word) : (s.useGenerator x R).host = s.host := rfl
@[simp] theorem State.useGenerator_draws (x : Words16) (R : Word) : (s.useGenerator x R).draws = s.draws + 1 := rfl

/-! ### Regenerating the block -/

@[simp] theorem State.regenerate_cfg : s.regenerate.cfg = s.cfg := rfl
@[simp] theorem State.regenerate_S : s.regenerate.S = s.S := rfl
@[simp] theorem State.regenerate_KS : s.regenerate.KS = keystream s.S s.RND s.draws := rfl
@[simp] theorem State.regenerate_CUR : s.regenerate.CUR = s.CUR := rfl
@[simp] theorem State.regenerate_RND : s.regenerate.RND = s.RND := rfl
@[simp] theorem State.regenerate_VALID : s.regenerate.VALID = s.VALID := rfl
@[simp] theorem State.regenerate_EXH : s.regenerate.EXH = s.EXH := rfl
@[simp] theorem State.regenerate_BUSY : s.regenerate.BUSY = s.BUSY := rfl
@[simp] theorem State.regenerate_LAST_ERR : s.regenerate.LAST_ERR = s.LAST_ERR := rfl
@[simp] theorem State.regenerate_RSP_DATA : s.regenerate.RSP_DATA = s.RSP_DATA := rfl
@[simp] theorem State.regenerate_RSP_DV : s.regenerate.RSP_DV = s.RSP_DV := rfl
@[simp] theorem State.regenerate_RSP_ERR : s.regenerate.RSP_ERR = s.RSP_ERR := rfl
@[simp] theorem State.regenerate_rspValid : s.regenerate.rspValid = s.rspValid := rfl
@[simp] theorem State.regenerate_latch : s.regenerate.latch = s.latch := rfl
@[simp] theorem State.regenerate_kg : s.regenerate.kg = s.kg.ran s.S s.RND s.draws := rfl
@[simp] theorem State.regenerate_bench : s.regenerate.bench = s.bench := rfl
@[simp] theorem State.regenerate_pins : s.regenerate.pins = s.pins := rfl
@[simp] theorem State.regenerate_host : s.regenerate.host = s.host := rfl
@[simp] theorem State.regenerate_draws : s.regenerate.draws = s.draws + 1 := rfl

/-! ### Restarting the stream (R187, R189) -/

@[simp] theorem State.restartAt_cfg (c : BitVec 64) : (s.restartAt c).cfg = s.cfg := rfl
@[simp] theorem State.restartAt_S (c : BitVec 64) : (s.restartAt c).S = setCtr s.S c := rfl
@[simp] theorem State.restartAt_KS (c : BitVec 64) : (s.restartAt c).KS = keystream (setCtr s.S c) s.RND s.draws := rfl
@[simp] theorem State.restartAt_CUR (c : BitVec 64) : (s.restartAt c).CUR = 0 := rfl
@[simp] theorem State.restartAt_RND (c : BitVec 64) : (s.restartAt c).RND = s.RND := rfl
@[simp] theorem State.restartAt_VALID (c : BitVec 64) : (s.restartAt c).VALID = s.VALID := rfl
@[simp] theorem State.restartAt_EXH (c : BitVec 64) : (s.restartAt c).EXH = false := rfl
@[simp] theorem State.restartAt_BUSY (c : BitVec 64) : (s.restartAt c).BUSY = s.BUSY := rfl
@[simp] theorem State.restartAt_LAST_ERR (c : BitVec 64) : (s.restartAt c).LAST_ERR = s.LAST_ERR := rfl
@[simp] theorem State.restartAt_RSP_DATA (c : BitVec 64) : (s.restartAt c).RSP_DATA = s.RSP_DATA := rfl
@[simp] theorem State.restartAt_RSP_DV (c : BitVec 64) : (s.restartAt c).RSP_DV = s.RSP_DV := rfl
@[simp] theorem State.restartAt_RSP_ERR (c : BitVec 64) : (s.restartAt c).RSP_ERR = s.RSP_ERR := rfl
@[simp] theorem State.restartAt_rspValid (c : BitVec 64) : (s.restartAt c).rspValid = s.rspValid := rfl
@[simp] theorem State.restartAt_latch (c : BitVec 64) : (s.restartAt c).latch = s.latch := rfl
@[simp] theorem State.restartAt_kg (c : BitVec 64) : (s.restartAt c).kg = s.kg.ran (setCtr s.S c) s.RND s.draws := rfl
@[simp] theorem State.restartAt_bench (c : BitVec 64) : (s.restartAt c).bench = s.bench := rfl
@[simp] theorem State.restartAt_pins (c : BitVec 64) : (s.restartAt c).pins = s.pins := rfl
@[simp] theorem State.restartAt_host (c : BitVec 64) : (s.restartAt c).host = s.host := rfl
@[simp] theorem State.restartAt_draws (c : BitVec 64) : (s.restartAt c).draws = s.draws + 1 := rfl

/-! ### The pulses fall -/

@[simp] theorem State.dropPulses_cfg : s.dropPulses.cfg = s.cfg := rfl
@[simp] theorem State.dropPulses_S : s.dropPulses.S = s.S := rfl
@[simp] theorem State.dropPulses_KS : s.dropPulses.KS = s.KS := rfl
@[simp] theorem State.dropPulses_CUR : s.dropPulses.CUR = s.CUR := rfl
@[simp] theorem State.dropPulses_RND : s.dropPulses.RND = s.RND := rfl
@[simp] theorem State.dropPulses_VALID : s.dropPulses.VALID = s.VALID := rfl
@[simp] theorem State.dropPulses_EXH : s.dropPulses.EXH = s.EXH := rfl
@[simp] theorem State.dropPulses_BUSY : s.dropPulses.BUSY = s.BUSY := rfl
@[simp] theorem State.dropPulses_LAST_ERR : s.dropPulses.LAST_ERR = s.LAST_ERR := rfl
@[simp] theorem State.dropPulses_RSP_DATA : s.dropPulses.RSP_DATA = s.RSP_DATA := rfl
@[simp] theorem State.dropPulses_RSP_DV : s.dropPulses.RSP_DV = s.RSP_DV := rfl
@[simp] theorem State.dropPulses_RSP_ERR : s.dropPulses.RSP_ERR = s.RSP_ERR := rfl
@[simp] theorem State.dropPulses_rspValid : s.dropPulses.rspValid = false := rfl
@[simp] theorem State.dropPulses_latch : s.dropPulses.latch = s.latch := rfl
@[simp] theorem State.dropPulses_kg : s.dropPulses.kg = s.kg := rfl
@[simp] theorem State.dropPulses_bench : s.dropPulses.bench = { s.bench with pe := s.bench.pe.dropDone, kg := s.bench.kg.dropDone } := rfl
@[simp] theorem State.dropPulses_pins : s.dropPulses.pins = s.pins := rfl
@[simp] theorem State.dropPulses_host : s.dropPulses.host = s.host := rfl
@[simp] theorem State.dropPulses_draws : s.dropPulses.draws = s.draws := rfl

/-! ### Acceptance (R256) -/

@[simp] theorem State.accept_cfg (w : BitVec 32) : (s.accept w).cfg = s.cfg := rfl
@[simp] theorem State.accept_S (w : BitVec 32) : (s.accept w).S = s.S := rfl
@[simp] theorem State.accept_KS (w : BitVec 32) : (s.accept w).KS = s.KS := rfl
@[simp] theorem State.accept_CUR (w : BitVec 32) : (s.accept w).CUR = s.CUR := rfl
@[simp] theorem State.accept_RND (w : BitVec 32) : (s.accept w).RND = s.RND := rfl
@[simp] theorem State.accept_VALID (w : BitVec 32) : (s.accept w).VALID = s.VALID := rfl
@[simp] theorem State.accept_EXH (w : BitVec 32) : (s.accept w).EXH = s.EXH := rfl
@[simp] theorem State.accept_BUSY (w : BitVec 32) : (s.accept w).BUSY = true := rfl
@[simp] theorem State.accept_LAST_ERR (w : BitVec 32) : (s.accept w).LAST_ERR = s.LAST_ERR := rfl
@[simp] theorem State.accept_RSP_DATA (w : BitVec 32) : (s.accept w).RSP_DATA = s.RSP_DATA := rfl
@[simp] theorem State.accept_RSP_DV (w : BitVec 32) : (s.accept w).RSP_DV = s.RSP_DV := rfl
@[simp] theorem State.accept_RSP_ERR (w : BitVec 32) : (s.accept w).RSP_ERR = s.RSP_ERR := rfl
@[simp] theorem State.accept_rspValid (w : BitVec 32) : (s.accept w).rspValid = false := rfl
@[simp] theorem State.accept_latch (w : BitVec 32) : (s.accept w).latch = { cmd := w, ops := s.pins } := rfl
@[simp] theorem State.accept_kg (w : BitVec 32) : (s.accept w).kg = s.kg := rfl
@[simp] theorem State.accept_bench (w : BitVec 32) : (s.accept w).bench = { s.bench with pe := s.bench.pe.dropDone, kg := s.bench.kg.dropDone } := rfl
@[simp] theorem State.accept_pins (w : BitVec 32) : (s.accept w).pins = s.pins := rfl
@[simp] theorem State.accept_host (w : BitVec 32) : (s.accept w).host = s.host := rfl
@[simp] theorem State.accept_draws (w : BitVec 32) : (s.accept w).draws = s.draws := rfl

/-! ### The hardware reset (R38, R250) -/

@[simp] theorem State.hardReset_cfg : s.hardReset.cfg = s.cfg := rfl
@[simp] theorem State.hardReset_S : s.hardReset.S = zeroWords := rfl
@[simp] theorem State.hardReset_KS : s.hardReset.KS = zeroBlock := rfl
@[simp] theorem State.hardReset_CUR : s.hardReset.CUR = 0 := rfl
@[simp] theorem State.hardReset_RND : s.hardReset.RND = 0 := rfl
@[simp] theorem State.hardReset_VALID : s.hardReset.VALID = false := rfl
@[simp] theorem State.hardReset_EXH : s.hardReset.EXH = false := rfl
@[simp] theorem State.hardReset_BUSY : s.hardReset.BUSY = false := rfl
@[simp] theorem State.hardReset_LAST_ERR : s.hardReset.LAST_ERR = .ok := rfl
@[simp] theorem State.hardReset_RSP_DATA : s.hardReset.RSP_DATA = 0 := rfl
@[simp] theorem State.hardReset_RSP_DV : s.hardReset.RSP_DV = false := rfl
@[simp] theorem State.hardReset_RSP_ERR : s.hardReset.RSP_ERR = .ok := rfl
@[simp] theorem State.hardReset_rspValid : s.hardReset.rspValid = false := rfl
@[simp] theorem State.hardReset_latch : s.hardReset.latch = Request.zero := rfl
@[simp] theorem State.hardReset_kg : s.hardReset.kg = Generator.zero := rfl
@[simp] theorem State.hardReset_bench : s.hardReset.bench = Bench.zero := rfl
@[simp] theorem State.hardReset_pins : s.hardReset.pins = s.pins := rfl
@[simp] theorem State.hardReset_host : s.hardReset.host = s.host := rfl
@[simp] theorem State.hardReset_draws : s.hardReset.draws = s.draws := rfl

/-! ### The engine's start edge -/

@[simp] theorem State.peStart_cfg (x : Words16) (R : Word) : (s.peStart x R).cfg = s.cfg := rfl
@[simp] theorem State.peStart_S (x : Words16) (R : Word) : (s.peStart x R).S = s.S := rfl
@[simp] theorem State.peStart_KS (x : Words16) (R : Word) : (s.peStart x R).KS = s.KS := rfl
@[simp] theorem State.peStart_CUR (x : Words16) (R : Word) : (s.peStart x R).CUR = s.CUR := rfl
@[simp] theorem State.peStart_RND (x : Words16) (R : Word) : (s.peStart x R).RND = s.RND := rfl
@[simp] theorem State.peStart_VALID (x : Words16) (R : Word) : (s.peStart x R).VALID = s.VALID := rfl
@[simp] theorem State.peStart_EXH (x : Words16) (R : Word) : (s.peStart x R).EXH = s.EXH := rfl
@[simp] theorem State.peStart_BUSY (x : Words16) (R : Word) : (s.peStart x R).BUSY = s.BUSY := rfl
@[simp] theorem State.peStart_LAST_ERR (x : Words16) (R : Word) : (s.peStart x R).LAST_ERR = s.LAST_ERR := rfl
@[simp] theorem State.peStart_RSP_DATA (x : Words16) (R : Word) : (s.peStart x R).RSP_DATA = s.RSP_DATA := rfl
@[simp] theorem State.peStart_RSP_DV (x : Words16) (R : Word) : (s.peStart x R).RSP_DV = s.RSP_DV := rfl
@[simp] theorem State.peStart_RSP_ERR (x : Words16) (R : Word) : (s.peStart x R).RSP_ERR = s.RSP_ERR := rfl
@[simp] theorem State.peStart_rspValid (x : Words16) (R : Word) : (s.peStart x R).rspValid = s.rspValid := rfl
@[simp] theorem State.peStart_latch (x : Words16) (R : Word) : (s.peStart x R).latch = s.latch := rfl
@[simp] theorem State.peStart_kg (x : Words16) (R : Word) : (s.peStart x R).kg = s.kg := rfl
@[simp] theorem State.peStart_bench (x : Words16) (R : Word) : (s.peStart x R).bench = { s.bench with pe := s.bench.pe.start x R s.draws } := rfl
@[simp] theorem State.peStart_pins (x : Words16) (R : Word) : (s.peStart x R).pins = s.pins := rfl
@[simp] theorem State.peStart_host (x : Words16) (R : Word) : (s.peStart x R).host = s.host := rfl
@[simp] theorem State.peStart_draws (x : Words16) (R : Word) : (s.peStart x R).draws = s.draws + 1 := rfl

/-! ### The generator's start edge -/

@[simp] theorem State.kgStart_cfg (x : Words16) (R : Word) : (s.kgStart x R).cfg = s.cfg := rfl
@[simp] theorem State.kgStart_S (x : Words16) (R : Word) : (s.kgStart x R).S = s.S := rfl
@[simp] theorem State.kgStart_KS (x : Words16) (R : Word) : (s.kgStart x R).KS = s.KS := rfl
@[simp] theorem State.kgStart_CUR (x : Words16) (R : Word) : (s.kgStart x R).CUR = s.CUR := rfl
@[simp] theorem State.kgStart_RND (x : Words16) (R : Word) : (s.kgStart x R).RND = s.RND := rfl
@[simp] theorem State.kgStart_VALID (x : Words16) (R : Word) : (s.kgStart x R).VALID = s.VALID := rfl
@[simp] theorem State.kgStart_EXH (x : Words16) (R : Word) : (s.kgStart x R).EXH = s.EXH := rfl
@[simp] theorem State.kgStart_BUSY (x : Words16) (R : Word) : (s.kgStart x R).BUSY = s.BUSY := rfl
@[simp] theorem State.kgStart_LAST_ERR (x : Words16) (R : Word) : (s.kgStart x R).LAST_ERR = s.LAST_ERR := rfl
@[simp] theorem State.kgStart_RSP_DATA (x : Words16) (R : Word) : (s.kgStart x R).RSP_DATA = s.RSP_DATA := rfl
@[simp] theorem State.kgStart_RSP_DV (x : Words16) (R : Word) : (s.kgStart x R).RSP_DV = s.RSP_DV := rfl
@[simp] theorem State.kgStart_RSP_ERR (x : Words16) (R : Word) : (s.kgStart x R).RSP_ERR = s.RSP_ERR := rfl
@[simp] theorem State.kgStart_rspValid (x : Words16) (R : Word) : (s.kgStart x R).rspValid = s.rspValid := rfl
@[simp] theorem State.kgStart_latch (x : Words16) (R : Word) : (s.kgStart x R).latch = s.latch := rfl
@[simp] theorem State.kgStart_kg (x : Words16) (R : Word) : (s.kgStart x R).kg = s.kg := rfl
@[simp] theorem State.kgStart_bench (x : Words16) (R : Word) : (s.kgStart x R).bench = { s.bench with kg := s.bench.kg.start x R s.draws } := rfl
@[simp] theorem State.kgStart_pins (x : Words16) (R : Word) : (s.kgStart x R).pins = s.pins := rfl
@[simp] theorem State.kgStart_host (x : Words16) (R : Word) : (s.kgStart x R).host = s.host := rfl
@[simp] theorem State.kgStart_draws (x : Words16) (R : Word) : (s.kgStart x R).draws = s.draws + 1 := rfl

/-! ### The ends of operations at the modules' own ports -/

@[simp] theorem State.endPe_cfg : s.endPe.cfg = s.cfg := by unfold State.endPe; split <;> rfl
@[simp] theorem State.endPe_S : s.endPe.S = s.S := by unfold State.endPe; split <;> rfl
@[simp] theorem State.endPe_KS : s.endPe.KS = s.KS := by unfold State.endPe; split <;> rfl
@[simp] theorem State.endPe_CUR : s.endPe.CUR = s.CUR := by unfold State.endPe; split <;> rfl
@[simp] theorem State.endPe_RND : s.endPe.RND = s.RND := by unfold State.endPe; split <;> rfl
@[simp] theorem State.endPe_VALID : s.endPe.VALID = s.VALID := by unfold State.endPe; split <;> rfl
@[simp] theorem State.endPe_EXH : s.endPe.EXH = s.EXH := by unfold State.endPe; split <;> rfl
@[simp] theorem State.endPe_BUSY : s.endPe.BUSY = s.BUSY := by unfold State.endPe; split <;> rfl
@[simp] theorem State.endPe_LAST_ERR : s.endPe.LAST_ERR = s.LAST_ERR := by unfold State.endPe; split <;> rfl
@[simp] theorem State.endPe_RSP_DATA : s.endPe.RSP_DATA = s.RSP_DATA := by unfold State.endPe; split <;> rfl
@[simp] theorem State.endPe_RSP_DV : s.endPe.RSP_DV = s.RSP_DV := by unfold State.endPe; split <;> rfl
@[simp] theorem State.endPe_RSP_ERR : s.endPe.RSP_ERR = s.RSP_ERR := by unfold State.endPe; split <;> rfl
@[simp] theorem State.endPe_rspValid : s.endPe.rspValid = s.rspValid := by unfold State.endPe; split <;> rfl
@[simp] theorem State.endPe_latch : s.endPe.latch = s.latch := by unfold State.endPe; split <;> rfl
@[simp] theorem State.endPe_kg : s.endPe.kg = s.kg := by unfold State.endPe; split <;> rfl
@[simp] theorem State.endPe_pins : s.endPe.pins = s.pins := by unfold State.endPe; split <;> rfl
@[simp] theorem State.endPe_host : s.endPe.host = s.host := by unfold State.endPe; split <;> rfl

@[simp] theorem State.endKg_cfg : s.endKg.cfg = s.cfg := by unfold State.endKg; split <;> rfl
@[simp] theorem State.endKg_S : s.endKg.S = s.S := by unfold State.endKg; split <;> rfl
@[simp] theorem State.endKg_KS : s.endKg.KS = s.KS := by unfold State.endKg; split <;> rfl
@[simp] theorem State.endKg_CUR : s.endKg.CUR = s.CUR := by unfold State.endKg; split <;> rfl
@[simp] theorem State.endKg_RND : s.endKg.RND = s.RND := by unfold State.endKg; split <;> rfl
@[simp] theorem State.endKg_VALID : s.endKg.VALID = s.VALID := by unfold State.endKg; split <;> rfl
@[simp] theorem State.endKg_EXH : s.endKg.EXH = s.EXH := by unfold State.endKg; split <;> rfl
@[simp] theorem State.endKg_BUSY : s.endKg.BUSY = s.BUSY := by unfold State.endKg; split <;> rfl
@[simp] theorem State.endKg_LAST_ERR : s.endKg.LAST_ERR = s.LAST_ERR := by unfold State.endKg; split <;> rfl
@[simp] theorem State.endKg_RSP_DATA : s.endKg.RSP_DATA = s.RSP_DATA := by unfold State.endKg; split <;> rfl
@[simp] theorem State.endKg_RSP_DV : s.endKg.RSP_DV = s.RSP_DV := by unfold State.endKg; split <;> rfl
@[simp] theorem State.endKg_RSP_ERR : s.endKg.RSP_ERR = s.RSP_ERR := by unfold State.endKg; split <;> rfl
@[simp] theorem State.endKg_rspValid : s.endKg.rspValid = s.rspValid := by unfold State.endKg; split <;> rfl
@[simp] theorem State.endKg_latch : s.endKg.latch = s.latch := by unfold State.endKg; split <;> rfl
@[simp] theorem State.endKg_kg : s.endKg.kg = s.kg := by unfold State.endKg; split <;> rfl
@[simp] theorem State.endKg_pins : s.endKg.pins = s.pins := by unfold State.endKg; split <;> rfl
@[simp] theorem State.endKg_host : s.endKg.host = s.host := by unfold State.endKg; split <;> rfl

end Sys2Proof.Machine
end

