-- ==== Sys2Proof/Laws/Ops.lean ====
section
/-! SUPPORT. What the functions and shared operations of the machine do, said once: round counts, the keystream block, State
Setup, the counter words, the inner modules, the block boundary. -/

namespace Sys2Proof.Machine

/-! ### Round counts, PERMUTE and KSGEN -/

theorem roundsOk_iff (R : Word) : roundsOk R = true ↔ R ≠ 0 ∧ R.toNat % 2 = 0 := by
  simp [roundsOk]

theorem roundsOk_false_iff (R : Word) : roundsOk R = false ↔ R = 0 ∨ R.toNat % 2 = 1 := by
  rw [← Bool.not_eq_true, roundsOk_iff, not_and_or, not_not, Nat.mod_two_not_eq_zero]

theorem permute_of_roundsOk (x : Words16) {R : Word} (h : roundsOk R = true) :
    permute x R = .ok (doubleRounds (R.toNat / 2) x) := by
  simp [permute, h]

theorem permute_of_not_roundsOk (x : Words16) {R : Word} (h : roundsOk R = false) :
    permute x R = .err .invalidRoundCount := by
  simp [permute, h]

theorem ksgen_of_roundsOk (x : Words16) {R : Word} (h : roundsOk R = true) :
    ksgen x R = .ok (serialize (addBack (doubleRounds (R.toNat / 2) x) x)) := by
  simp [ksgen, permute_of_roundsOk x h]

theorem ksgen_of_not_roundsOk (x : Words16) {R : Word} (h : roundsOk R = false) :
    ksgen x R = .err .invalidRoundCount := by
  simp [ksgen, permute_of_not_roundsOk x h]

theorem roundsOk_of_ksgen {x : Words16} {R : Word} {b : Block64} (h : ksgen x R = .ok b) : roundsOk R = true := by
  cases hr : roundsOk R
  · rw [ksgen_of_not_roundsOk x hr] at h
    cases h
  · rfl

/-- With a valid round count the block does not depend on the free values. -/
theorem ksgen_eq_keystream (x : Words16) {R : Word} (h : roundsOk R = true) (draw : Nat) :
    ksgen x R = .ok (keystream x R draw) := by
  simp [keystream, ksgen_of_roundsOk x h]

theorem keystream_eq_of_ksgen {x : Words16} {R : Word} {b : Block64} (h : ksgen x R = .ok b) (draw : Nat) :
    keystream x R draw = b := by
  simp [keystream, h]

/-- The only error of KSGEN. -/
theorem ksgen_err_eq {x : Words16} {R : Word} {e : ErrKind} (h : ksgen x R = .err e) :
    e = .invalidRoundCount ∧ roundsOk R = false := by
  cases hr : roundsOk R
  · rw [ksgen_of_not_roundsOk x hr] at h
    cases h
    exact ⟨rfl, rfl⟩
  · rw [ksgen_of_roundsOk x hr] at h
    cases h

/-- The only error of PERMUTE. -/
theorem permute_err_eq {x : Words16} {R : Word} {e : ErrKind} (h : permute x R = .err e) :
    e = .invalidRoundCount ∧ roundsOk R = false := by
  cases hr : roundsOk R
  · rw [permute_of_not_roundsOk x hr] at h
    cases h
    exact ⟨rfl, rfl⟩
  · rw [permute_of_roundsOk x hr] at h
    cases h

/-! ### State Setup -/

/-- Everything SETUP can answer (R140 to R142). -/
theorem setup_cases (k : BitVec 256) (kl : Byte) (n : BitVec 64) (nl : Byte) :
    (kl ≠ 16 ∧ kl ≠ 32 ∧ setup k kl n nl = .err .invalidKeyLength) ∨
    ((kl = 16 ∨ kl = 32) ∧ nl ≠ 8 ∧ setup k kl n nl = .err .invalidNonceLength) ∨
    (kl = 32 ∧ nl = 8 ∧ setup k kl n nl = .ok (layout sigma 16 k n)) ∨
    (kl = 16 ∧ nl = 8 ∧ setup k kl n nl = .ok (layout tau 0 k n)) := by
  by_cases h16 : kl = 16
  · subst h16
    by_cases hn : nl = 8
    · subst hn
      exact .inr (.inr (.inr ⟨rfl, rfl, rfl⟩))
    · refine .inr (.inl ⟨.inl rfl, hn, ?_⟩)
      unfold setup
      rw [if_neg (by decide), if_pos (bne_iff_ne.mpr hn)]
  · by_cases h32 : kl = 32
    · subst h32
      by_cases hn : nl = 8
      · subst hn
        exact .inr (.inr (.inl ⟨rfl, rfl, rfl⟩))
      · refine .inr (.inl ⟨.inr rfl, hn, ?_⟩)
        unfold setup
        rw [if_neg (by decide), if_pos (bne_iff_ne.mpr hn)]
    · refine .inl ⟨h16, h32, ?_⟩
      unfold setup
      rw [if_pos (by rw [Bool.and_eq_true]; exact ⟨bne_iff_ne.mpr h16, bne_iff_ne.mpr h32⟩)]

theorem layout_sigma_constants (k2 : Nat) (k : BitVec 256) (n : BitVec 64) : HasConstants (layout sigma k2 k n) :=
  .inl ⟨by simp [layout]; decide, by simp [layout]; decide, by simp [layout]; decide, by simp [layout]; decide⟩

theorem layout_tau_constants (k2 : Nat) (k : BitVec 256) (n : BitVec 64) : HasConstants (layout tau k2 k n) :=
  .inr ⟨by simp [layout]; decide, by simp [layout]; decide, by simp [layout]; decide, by simp [layout]; decide⟩

@[simp] theorem ctrOf_layout (str : Vector Byte 16) (k2 : Nat) (k : BitVec 256) (n : BitVec 64) :
    ctrOf (layout str k2 k n) = 0 := by
  simp [ctrOf, layout]

/-- What State Setup leaves when it succeeds. -/
theorem setup_ok {k : BitVec 256} {kl : Byte} {n : BitVec 64} {nl : Byte} {x : Words16} (h : setup k kl n nl = .ok x) :
    HasConstants x ∧ ctrOf x = 0 := by
  obtain ⟨-, -, e⟩ | ⟨-, -, e⟩ | ⟨-, -, e⟩ | ⟨-, -, e⟩ := setup_cases k kl n nl <;> rw [h] at e <;> cases e
  · exact ⟨layout_sigma_constants _ _ _, ctrOf_layout _ _ _ _⟩
  · exact ⟨layout_tau_constants _ _ _, ctrOf_layout _ _ _ _⟩

/-! ### The counter words -/

theorem KeyPartKept.refl (x : Words16) : KeyPartKept x x := fun _ _ _ => rfl

theorem KeyPartKept.trans {x y z : Words16} (h : KeyPartKept x y) (g : KeyPartKept y z) : KeyPartKept x z :=
  fun k h8 h9 => (g k h8 h9).trans (h k h8 h9)

theorem KeyPartKept.symm {x y : Words16} (h : KeyPartKept x y) : KeyPartKept y x :=
  fun k h8 h9 => (h k h8 h9).symm

theorem KeyPartKept.constants {x y : Words16} (h : KeyPartKept x y) (hc : HasConstants x) : HasConstants y := by
  have e0 : y[0] = x[0] := h 0 (by decide) (by decide)
  have e5 : y[5] = x[5] := h 5 (by decide) (by decide)
  have e10 : y[10] = x[10] := h 10 (by decide) (by decide)
  have e15 : y[15] = x[15] := h 15 (by decide) (by decide)
  simpa [HasConstants, e0, e5, e10, e15] using hc

theorem keyPartKept_setCtr (x : Words16) (c : BitVec 64) : KeyPartKept x (setCtr x c) := by
  intro k h8 h9
  have h8' : (8 : Nat) ≠ k.val := fun h => h8 h.symm
  have h9' : (9 : Nat) ≠ k.val := fun h => h9 h.symm
  simp [setCtr, h8', h9']

@[simp] theorem setCtr_low (x : Words16) (c : BitVec 64) : (setCtr x c)[8] = c.extractLsb' 0 32 := by
  simp [setCtr]

@[simp] theorem setCtr_high (x : Words16) (c : BitVec 64) : (setCtr x c)[9] = c.extractLsb' 32 32 := by
  simp [setCtr]

theorem halves_append (c : BitVec 64) : c.extractLsb' 32 32 ++ c.extractLsb' 0 32 = c := by
  apply BitVec.eq_of_getLsbD_eq
  intro i hi
  rw [BitVec.getLsbD_append]
  split
  · rename_i h
    simp [h]
  · rename_i h
    have e : 32 + (i - 32) = i := by omega
    have g : i - 32 < 32 := by omega
    simp [e, g]

theorem append_high (a b : Word) : (a ++ b).extractLsb' 32 32 = a := by
  apply BitVec.eq_of_getLsbD_eq
  intro i hi
  have g : ¬ 32 + i < 32 := by omega
  rw [BitVec.getLsbD_extractLsb', BitVec.getLsbD_append]
  simp [hi, g]

theorem append_low (a b : Word) : (a ++ b).extractLsb' 0 32 = b := by
  apply BitVec.eq_of_getLsbD_eq
  intro i hi
  rw [BitVec.getLsbD_extractLsb', BitVec.getLsbD_append]
  simp [hi]

@[simp] theorem ctrOf_setCtr (x : Words16) (c : BitVec 64) : ctrOf (setCtr x c) = c := by
  simp [ctrOf, halves_append]

/-- Two states with the same key part and the same counter are the same. -/
theorem words_ext_ctr {x y : Words16} (h : KeyPartKept x y) (hc : ctrOf y = ctrOf x) : y = x := by
  have h9 : y[9] = x[9] := by
    have := congrArg (BitVec.extractLsb' 32 32) hc
    rwa [ctrOf, ctrOf, append_high, append_high] at this
  have h8 : y[8] = x[8] := by
    have := congrArg (BitVec.extractLsb' 0 32) hc
    rwa [ctrOf, ctrOf, append_low, append_low] at this
  apply Vector.ext
  intro i hi
  by_cases e8 : i = 8
  · subst e8
    exact h8
  · by_cases e9 : i = 9
    · subst e9
      exact h9
    · exact h ⟨i, hi⟩ e8 e9

theorem setCtr_eq_of_key {x y : Words16} (h : KeyPartKept x y) : setCtr x (ctrOf y) = y := by
  have hk : KeyPartKept x (setCtr x (ctrOf y)) := keyPartKept_setCtr x _
  exact words_ext_ctr (h.symm.trans hk) (by simp)

theorem setCtr_setCtr_of_key {x y : Words16} (h : KeyPartKept x y) (c : BitVec 64) : setCtr y c = setCtr x c := by
  apply words_ext_ctr
  · exact (keyPartKept_setCtr x c).symm.trans (h.trans (keyPartKept_setCtr y c))
  · simp

theorem keyPartKept_incrCtr (x : Words16) : KeyPartKept x (incrCtr x) := by
  intro k h8 h9
  have h8' : (8 : Nat) ≠ k.val := fun h => h8 h.symm
  have h9' : (9 : Nat) ≠ k.val := fun h => h9 h.symm
  simp only [incrCtr]
  split <;> simp [h8', h9']

theorem ctrOf_toNat (x : Words16) : (ctrOf x).toNat = x[9].toNat * 4294967296 + x[8].toNat := by
  have h8 := x[8].isLt
  simp only [ctrOf, BitVec.toNat_append]
  rw [Nat.shiftLeft_eq, Nat.mul_comm, ← Nat.two_pow_add_eq_or_of_lt h8]

theorem ctrOverflows_iff (x : Words16) : ctrOverflows x = true ↔ ctrOf x = 0xFFFFFFFFFFFFFFFF := by
  have h8 := x[8].isLt
  have h9 := x[9].isLt
  have hc := ctrOf_toNat x
  have e32 : (0xFFFFFFFF : Word).toNat = 4294967295 := rfl
  have e64 : (0xFFFFFFFFFFFFFFFF : BitVec 64).toNat = 18446744073709551615 := rfl
  simp only [ctrOverflows, Bool.and_eq_true, beq_iff_eq, ← BitVec.toNat_inj, hc, e32, e64]
  omega

/-- The low word is stepped (R185). -/
theorem incrCtr_low (x : Words16) : (incrCtr x)[8] = x[8] + 1 := by
  simp only [incrCtr]
  split <;> simp

/-- The high word is stepped when the low word wraps to 0 (R185). -/
theorem incrCtr_high (x : Words16) : (incrCtr x)[9] = if x[8] + 1 = 0 then x[9] + 1 else x[9] := by
  by_cases h : x[8] + 1#32 = 0#32 <;> simp [incrCtr, h]

/-- The increment with carry adds 1 to the 64-bit counter (R22, R185). -/
theorem ctrOf_incrCtr_toNat (x : Words16) :
    (ctrOf (incrCtr x)).toNat = ((ctrOf x).toNat + 1) % 18446744073709551616 := by
  have h8 := x[8].isLt
  have h9 := x[9].isLt
  have e : (x[8] + 1).toNat = (x[8].toNat + 1) % 4294967296 := BitVec.toNat_add x[8] 1
  have e' : (x[9] + 1).toNat = (x[9].toNat + 1) % 4294967296 := BitVec.toNat_add x[9] 1
  rw [ctrOf_toNat, ctrOf_toNat, incrCtr_low, incrCtr_high]
  split
  · rename_i h
    have z : (x[8] + 1).toNat = 0 := by rw [h]; rfl
    omega
  · rename_i h
    have z : (x[8] + 1).toNat ≠ 0 := fun hz => h (BitVec.eq_of_toNat_eq hz)
    omega

/-! ### The inner modules -/

@[simp] theorem Engine.dropDone_zero : Engine.zero.dropDone = Engine.zero := rfl
@[simp] theorem Generator.dropDone_zero : Generator.zero.dropDone = Generator.zero := rfl
@[simp] theorem Engine.dropDone_dropDone (e : Engine) : e.dropDone.dropDone = e.dropDone := rfl
@[simp] theorem Generator.dropDone_dropDone (g : Generator) : g.dropDone.dropDone = g.dropDone := rfl
@[simp] theorem Engine.dropDone_busy (e : Engine) : e.dropDone.busy = e.busy := rfl
@[simp] theorem Generator.dropDone_busy (g : Generator) : g.dropDone.busy = g.busy := rfl
@[simp] theorem Engine.dropDone_done (e : Engine) : e.dropDone.done = false := rfl
@[simp] theorem Generator.dropDone_done (g : Generator) : g.dropDone.done = false := rfl
@[simp] theorem Engine.dropDone_err (e : Engine) : e.dropDone.err = e.err := rfl
@[simp] theorem Generator.dropDone_err (g : Generator) : g.dropDone.err = g.err := rfl
@[simp] theorem Engine.dropDone_stateOut (e : Engine) : e.dropDone.stateOut = e.stateOut := rfl
@[simp] theorem Generator.dropDone_block (g : Generator) : g.dropDone.block = g.block := rfl
@[simp] theorem Generator.dropDone_pe (g : Generator) : g.dropDone.pe = g.pe.dropDone := rfl

/-- A start while busy is ignored (R126). -/
theorem Engine.start_of_busy (x : Words16) (R : Word) (d : Nat) {e : Engine} (h : e.busy = true) :
    e.start x R d = e := by
  simp [Engine.start, h]

/-- A start while busy is ignored (R166). -/
theorem Generator.start_of_busy (x : Words16) (R : Word) (d : Nat) {g : Generator} (h : g.busy = true) :
    g.start x R d = g := by
  simp [Generator.start, h]

/-- Nothing ends that is not in progress (R126). -/
theorem Engine.finish_of_idle (d : Nat) {e : Engine} (h : e.busy = false) : e.finish d = e := by
  simp [Engine.finish, h]

/-- Nothing ends that is not in progress (R166). -/
theorem Generator.finish_of_idle (d : Nat) {g : Generator} (h : g.busy = false) : g.finish d = g := by
  simp [Generator.finish, h]

/-- After an operation an engine is idle (R126). -/
theorem Engine.finish_busy (d : Nat) (e : Engine) : (e.finish d).busy = false := by
  cases h : e.busy <;> simp [Engine.finish, h]

/-- After an operation a generator is idle (R166). -/
theorem Generator.finish_busy (d : Nat) (g : Generator) : (g.finish d).busy = false := by
  cases h : g.busy <;> simp [Generator.finish, h]

/-- An engine's error output is only ever what it was, or OK, or InvalidRoundCount (R239). -/
theorem Engine.finish_err (d : Nat) (e : Engine) :
    (e.finish d).err = e.err ∨ (e.finish d).err = .ok ∨ (e.finish d).err = .invalidRoundCount := by
  cases h : e.busy
  · exact .inl (by rw [Engine.finish_of_idle d h])
  · cases hp : permute e.W e.rnd with
    | ok y => simp [Engine.finish, h, hp]
    | err k => simp [Engine.finish, h, hp, (permute_err_eq hp).1]

/-- A generator's error output is only ever what it was, or OK, or InvalidRoundCount (R239). -/
theorem Generator.finish_err (d : Nat) (g : Generator) :
    (g.finish d).err = g.err ∨ (g.finish d).err = .ok ∨ (g.finish d).err = .invalidRoundCount := by
  cases h : g.busy
  · exact .inl (by rw [Generator.finish_of_idle d h])
  · cases hp : ksgen g.x g.pe.rnd with
    | ok y => simp [Generator.finish, h, hp]
    | err k => simp [Generator.finish, h, hp, (ksgen_err_eq hp).1]

theorem Generator.finish_pe (d : Nat) (g : Generator) :
    (g.finish d).pe = g.pe ∨ (g.finish d).pe = (g.pe.finish d).dropDone := by
  cases h : g.busy <;> simp [Generator.finish, h]

@[simp] theorem Engine.start_err (x : Words16) (R : Word) (d : Nat) (e : Engine) : (e.start x R d).err = e.err := by
  cases h : e.busy <;> simp [Engine.start, h]

@[simp] theorem Generator.start_err (x : Words16) (R : Word) (d : Nat) (g : Generator) :
    (g.start x R d).err = g.err := by
  cases h : g.busy <;> simp [Generator.start, h]

@[simp] theorem Generator.start_pe_err (x : Words16) (R : Word) (d : Nat) (g : Generator) :
    (g.start x R d).pe.err = g.pe.err := by
  cases h : g.busy <;> simp [Generator.start, h]

/-- The end of an operation started on idle inputs carries PERMUTE of them (R126). -/
theorem Engine.finish_start_ok {x : Words16} {R : Word} {y : Words16} (h : permute x R = .ok y) (d d' : Nat) {e : Engine}
    (hb : e.busy = false) :
    ((e.start x R d).finish d').done = true ∧ ((e.start x R d).finish d').err = .ok ∧
      ((e.start x R d).finish d').stateOut = y := by
  simp [Engine.start, Engine.finish, hb, h]

/-- The end of an operation started on idle inputs carries KSGEN of them (R166). -/
theorem Generator.finish_start_ok {x : Words16} {R : Word} {b : Block64} (h : ksgen x R = .ok b) (d d' : Nat)
    {g : Generator} (hb : g.busy = false) :
    ((g.start x R d).finish d').done = true ∧ ((g.start x R d).finish d').err = .ok ∧
      ((g.start x R d).finish d').block = b := by
  simp [Generator.start, Engine.start, Generator.finish, hb, h]

/-- What a whole operation inside a command leaves: the generator and its engine at rest, their error outputs OK or
InvalidRoundCount (R261, R239). -/
theorem Generator.ran_rest (x : Words16) (R : Word) (d : Nat) (g : Generator) :
    (g.ran x R d).busy = false ∧ (g.ran x R d).done = false ∧ (g.ran x R d).pe.busy = false ∧
      (g.ran x R d).pe.done = false := by
  simp [Generator.ran, Generator.start, Engine.start, Generator.finish, Engine.finish]

theorem Generator.ran_err (x : Words16) (R : Word) (d : Nat) (g : Generator) :
    ((g.ran x R d).err = .ok ∨ (g.ran x R d).err = .invalidRoundCount) ∧
      ((g.ran x R d).pe.err = .ok ∨ (g.ran x R d).pe.err = .invalidRoundCount) := by
  cases hr : roundsOk R
  · simp [Generator.ran, Generator.start, Engine.start, Generator.finish, Engine.finish,
      ksgen_of_not_roundsOk x hr, permute_of_not_roundsOk x hr]
  · simp [Generator.ran, Generator.start, Engine.start, Generator.finish, Engine.finish,
      ksgen_of_roundsOk x hr, permute_of_roundsOk x hr]

/-- The generator's block output after a successful operation inside a command is the block (R166). -/
theorem Generator.ran_block {x : Words16} {R : Word} {b : Block64} (h : ksgen x R = .ok b) (d : Nat) (g : Generator) :
    (g.ran x R d).block = b := by
  simp [Generator.ran, Generator.start, Engine.start, Generator.finish, h]

/-- With both modules idle, the ends of their operations do nothing. -/
theorem endPe_endKg_of_idle {s : State} (hp : s.bench.pe.busy = false) (hk : s.bench.kg.busy = false) :
    s.endPe.endKg = s := by
  simp [State.endPe, State.endKg, hp, hk]

@[simp] theorem dropPulses_dropPulses (s : State) : s.dropPulses.dropPulses = s.dropPulses := rfl

/-! ### The block boundary -/

/-- Everything the block boundary can do (R185): the counter overflows and the session is exhausted, or the block of the
next counter is generated; either way the byte is valid. -/
theorem boundary_cases (dout : Byte) (s : State) :
    (ctrOverflows s.S = true ∧
      s.boundary dout =
        ({ s with S := incrCtr s.S, EXH := true } : State).complete dout true .nonceLimitExceeded) ∨
    (ctrOverflows s.S = false ∧
      s.boundary dout = (({ s with S := incrCtr s.S } : State).regenerate).complete dout true .ok) := by
  cases h : ctrOverflows s.S
  · exact .inr ⟨rfl, by simp [State.boundary, h]⟩
  · exact .inl ⟨rfl, by simp [State.boundary, h]⟩

end Sys2Proof.Machine
end

