-- ==== Sys2Proof/Laws/Exec.lean ====
section
/-! SUPPORT. Everything each command can do, one inversion lemma per command, and what every operation keeps. -/

namespace Sys2Proof.Machine

/-- Everything INIT can do (R182): fail at State Setup, fail at the round count, or create the session. -/
theorem execInit_cases (s : State) :
    (∃ e, setup s.latch.ops.keyIn s.latch.ops.keyLen s.latch.ops.nonceIn s.latch.ops.nonceLen = .err e ∧
      execInit s = .next (s.zeroize.raise e)) ∨
    (∃ x e, setup s.latch.ops.keyIn s.latch.ops.keyLen s.latch.ops.nonceIn s.latch.ops.nonceLen = .ok x ∧
      ksgen x s.latch.ops.roundsIn = .err e ∧
      execInit s = .next ((s.useGenerator x s.latch.ops.roundsIn).zeroize.raise e)) ∨
    (∃ x b, setup s.latch.ops.keyIn s.latch.ops.keyLen s.latch.ops.nonceIn s.latch.ops.nonceLen = .ok x ∧
      ksgen x s.latch.ops.roundsIn = .ok b ∧
      execInit s = .next ({ s.useGenerator x s.latch.ops.roundsIn with
        S := x, KS := b, RND := s.latch.ops.roundsIn, CUR := 0, EXH := false, VALID := true } : State).finishOk) := by
  unfold execInit
  cases hs : setup s.latch.ops.keyIn s.latch.ops.keyLen s.latch.ops.nonceIn s.latch.ops.nonceLen with
  | err e => exact .inl ⟨e, rfl, rfl⟩
  | ok x =>
    cases hk : ksgen x s.latch.ops.roundsIn with
    | err e => exact .inr (.inl ⟨x, e, rfl, hk, by simp [State.initWith, hk]⟩)
    | ok b => exact .inr (.inr ⟨x, b, rfl, hk, by simp [State.initWith, hk]⟩)

/-- Everything PBYTE can do (R184 to R186): no session, an exhausted session, a byte inside a block, a byte at the block
boundary. -/
theorem execPbyte_cases (din : Byte) (s : State) :
    (s.VALID = false ∧ execPbyte din s = .next (s.raise .noSession)) ∨
    (s.VALID = true ∧ s.EXH = true ∧ execPbyte din s = .next (s.raise .nonceLimitExceeded)) ∨
    (s.VALID = true ∧ s.EXH = false ∧ s.CUR + 1 ≠ 0 ∧
      execPbyte din s =
        .next (({ s with CUR := s.CUR + 1 } : State).complete (din ^^^ s.KS[s.CUR.toNat]) true .ok)) ∨
    (s.VALID = true ∧ s.EXH = false ∧ s.CUR + 1 = 0 ∧
      execPbyte din s = .next (({ s with CUR := s.CUR + 1 } : State).boundary (din ^^^ s.KS[s.CUR.toNat]))) := by
  unfold execPbyte
  cases hv : s.VALID
  · exact .inl ⟨rfl, by simp⟩
  · cases he : s.EXH
    · by_cases hc : s.CUR + 1 = 0
      · exact .inr (.inr (.inr ⟨rfl, rfl, hc, by simp_all⟩))
      · exact .inr (.inr (.inl ⟨rfl, rfl, hc, by simp_all⟩))
    · exact .inr (.inl ⟨rfl, rfl, by simp⟩)

/-- Everything RESET can do (R187). -/
theorem execReset_cases (s : State) :
    (s.VALID = false ∧ execReset s = .next (s.raise .noSession)) ∨
    (s.VALID = true ∧ execReset s = .next (s.restartAt 0).finishOk) := by
  unfold execReset
  cases s.VALID
  · exact .inl ⟨rfl, rfl⟩
  · exact .inr ⟨rfl, rfl⟩

/-- Everything SETCTR can do (R189). -/
theorem execSetctr_cases (s : State) :
    (s.cfg.hasTestHook = false ∧ execSetctr s = .next (s.raise .illegalCommand)) ∨
    (s.cfg.hasTestHook = true ∧ s.VALID = false ∧ execSetctr s = .next (s.raise .noSession)) ∨
    (s.cfg.hasTestHook = true ∧ s.VALID = true ∧ execSetctr s = .next (s.restartAt s.latch.ops.ctrIn).finishOk) := by
  unfold execSetctr
  cases s.cfg.hasTestHook
  · exact .inl ⟨rfl, rfl⟩
  · cases s.VALID
    · exact .inr (.inl ⟨rfl, rfl, rfl⟩)
    · exact .inr (.inr ⟨rfl, rfl, rfl⟩)

/-- Everything PERMUTE can do at the engine's ports (R126). -/
theorem execPermute_cases (x : Words16) (R : Word) (s : State) :
    (s.bench.pe.busy = true ∧ execPermute x R s = .next s) ∨
    (s.bench.pe.busy = false ∧
      execPermute x R s =
        .next { s with
          bench := { s.bench with pe := (s.bench.pe.start x R s.draws).finish (s.draws + 1) }, draws := s.draws + 2 }) := by
  unfold execPermute
  cases h : s.bench.pe.busy
  · exact .inr ⟨rfl, by simp [State.peStart, State.endPe, Engine.start, h]⟩
  · exact .inl ⟨rfl, by simp⟩

/-- Everything KSGEN can do at the generator's ports (R166). -/
theorem execKsgen_cases (x : Words16) (R : Word) (s : State) :
    (s.bench.kg.busy = true ∧ execKsgen x R s = .next s) ∨
    (s.bench.kg.busy = false ∧
      execKsgen x R s =
        .next { s with
          bench := { s.bench with kg := (s.bench.kg.start x R s.draws).finish (s.draws + 1) }, draws := s.draws + 2 }) := by
  unfold execKsgen
  cases h : s.bench.kg.busy
  · exact .inr ⟨rfl, by simp [State.kgStart, State.endKg, Generator.start, h]⟩
  · exact .inl ⟨rfl, by simp⟩

/-- A PORT operation changes nothing but the modules at their own ports (R84). -/
theorem exec_port_frame {i : Instr} (hi : i.isPort = true) (s : State) :
    ∃ b n, exec i s = .next { s with bench := b, draws := n } := by
  cases i with
  | nop => cases hi
  | init => cases hi
  | pbyte d => cases hi
  | reset => cases hi
  | wipe => cases hi
  | setctr => cases hi
  | mix b c rot => exact ⟨_, s.draws, rfl⟩
  | qround a b c d => exact ⟨_, s.draws, rfl⟩
  | colround x => exact ⟨_, s.draws, rfl⟩
  | rowround x => exact ⟨_, s.draws, rfl⟩
  | dround x => exact ⟨_, s.draws, rfl⟩
  | setup k kl n nl => exact ⟨_, s.draws, rfl⟩
  | permute x R =>
    obtain ⟨-, e⟩ | ⟨-, e⟩ := execPermute_cases x R s
    · exact ⟨s.bench, s.draws, e⟩
    · exact ⟨_, _, e⟩
  | ksgen x R =>
    obtain ⟨-, e⟩ | ⟨-, e⟩ := execKsgen_cases x R s
    · exact ⟨s.bench, s.draws, e⟩
    · exact ⟨_, _, e⟩

/-- Everything a command can do, all commands together: which registers each outcome leaves. -/
theorem exec_command_cases {i : Instr} (hi : i.isCommand = true) (s : State) :
    (∃ e, exec i s = .next (s.raise e) ∧ e ≠ .malformedState) ∨
    (exec i s = .next s.zeroize.finishOk) ∨
    (∃ e, exec i s = .next (s.zeroize.raise e) ∧ e ≠ .malformedState) ∨
    (∃ x R e, exec i s = .next ((s.useGenerator x R).zeroize.raise e) ∧ e ≠ .malformedState) ∨
    (∃ x R b, HasConstants x ∧ ctrOf x = 0 ∧ ksgen x R = .ok b ∧
      exec i s = .next ({ s.useGenerator x R with
        S := x, KS := b, RND := R, CUR := 0, EXH := false, VALID := true } : State).finishOk) ∨
    (s.VALID = true ∧ s.EXH = false ∧ s.CUR + 1 ≠ 0 ∧
      ∃ d, exec i s = .next (({ s with CUR := s.CUR + 1 } : State).complete d true .ok)) ∨
    (s.VALID = true ∧ s.EXH = false ∧ s.CUR + 1 = 0 ∧
      ∃ d, exec i s = .next (({ s with CUR := s.CUR + 1 } : State).boundary d)) ∨
    (s.VALID = true ∧ ∃ c, exec i s = .next (s.restartAt c).finishOk) := by
  cases i with
  | nop => exact .inl ⟨.ok, rfl, by decide⟩
  | wipe => exact .inr (.inl rfl)
  | init =>
    obtain ⟨e, hs, h⟩ | ⟨x, e, hs, hk, h⟩ | ⟨x, b, hs, hk, h⟩ := execInit_cases s
    · refine .inr (.inr (.inl ⟨e, h, ?_⟩))
      obtain ⟨-, -, e'⟩ | ⟨-, -, e'⟩ | ⟨-, -, e'⟩ | ⟨-, -, e'⟩ := setup_cases s.latch.ops.keyIn s.latch.ops.keyLen
        s.latch.ops.nonceIn s.latch.ops.nonceLen <;> rw [e'] at hs <;> cases hs <;> decide
    · exact .inr (.inr (.inr (.inl ⟨x, _, e, h, by rw [(ksgen_err_eq hk).1]; decide⟩)))
    · exact .inr (.inr (.inr (.inr (.inl ⟨x, _, b, (setup_ok hs).1, (setup_ok hs).2, hk, h⟩))))
  | pbyte d =>
    obtain ⟨-, h⟩ | ⟨-, -, h⟩ | ⟨hv, he, hn, h⟩ | ⟨hv, he, hc, h⟩ := execPbyte_cases d s
    · exact .inl ⟨_, h, by decide⟩
    · exact .inl ⟨_, h, by decide⟩
    · exact .inr (.inr (.inr (.inr (.inr (.inl ⟨hv, he, hn, _, h⟩)))))
    · exact .inr (.inr (.inr (.inr (.inr (.inr (.inl ⟨hv, he, hc, _, h⟩))))))
  | reset =>
    obtain ⟨-, h⟩ | ⟨hv, h⟩ := execReset_cases s
    · exact .inl ⟨_, h, by decide⟩
    · exact .inr (.inr (.inr (.inr (.inr (.inr (.inr ⟨hv, _, h⟩))))))
  | setctr =>
    obtain ⟨-, h⟩ | ⟨-, -, h⟩ | ⟨-, hv, h⟩ := execSetctr_cases s
    · exact .inl ⟨_, h, by decide⟩
    · exact .inl ⟨_, h, by decide⟩
    · exact .inr (.inr (.inr (.inr (.inr (.inr (.inr ⟨hv, _, h⟩))))))
  | mix b c rot => cases hi
  | qround a b c d => cases hi
  | colround x => cases hi
  | rowround x => cases hi
  | dround x => cases hi
  | setup k kl n nl => cases hi
  | permute x R => cases hi
  | ksgen x R => cases hi

end Sys2Proof.Machine
end

