-- ==== Sys2Proof/Laws/PerInstr.lean ====
section
/-! SUPPORT. Statements of every operation, one lemma per operation. -/

namespace Sys2Proof.Laws

/-- Exactly the commands have a command word; the PORT operations have none (30 R73, R84). -/
def WordOfCommand.Statement : Instr → Prop := fun i => (encode i).isSome = i.isCommand

theorem WordOfCommand.nop : WordOfCommand.Statement .nop := rfl
theorem WordOfCommand.init : WordOfCommand.Statement .init := rfl
theorem WordOfCommand.pbyte (d : Byte) : WordOfCommand.Statement (.pbyte d) := rfl
theorem WordOfCommand.reset : WordOfCommand.Statement .reset := rfl
theorem WordOfCommand.wipe : WordOfCommand.Statement .wipe := rfl
theorem WordOfCommand.setctr : WordOfCommand.Statement .setctr := rfl
theorem WordOfCommand.mix (b c : Word) (rot : BitVec 5) : WordOfCommand.Statement (.mix b c rot) := rfl
theorem WordOfCommand.qround (qa qb qc qd : Word) : WordOfCommand.Statement (.qround qa qb qc qd) := rfl
theorem WordOfCommand.colround (x : Words16) : WordOfCommand.Statement (.colround x) := rfl
theorem WordOfCommand.rowround (x : Words16) : WordOfCommand.Statement (.rowround x) := rfl
theorem WordOfCommand.dround (x : Words16) : WordOfCommand.Statement (.dround x) := rfl
theorem WordOfCommand.permute (x : Words16) (R : Word) : WordOfCommand.Statement (.permute x R) := rfl
theorem WordOfCommand.setup (k : BitVec 256) (kl : Byte) (n : BitVec 64) (nl : Byte) :
    WordOfCommand.Statement (.setup k kl n nl) := rfl
theorem WordOfCommand.ksgen (x : Words16) (R : Word) : WordOfCommand.Statement (.ksgen x R) := rfl

end Sys2Proof.Laws
end

