-- ==== Sys2Proof/Laws/Step.lean ====
section
/-! SUPPORT. Everything a step can do, as one principle for properties of states, and a PBYTE of the host as a transaction. -/

namespace Sys2Proof.Machine

/-- Every operation answers a next state. -/
theorem exec_next (i : Instr) (s : State) : ∃ t, exec i s = .next t := by
  cases h : i.isCommand
  · obtain ⟨b, n, e⟩ := exec_port_frame (i := i) (by simp [Instr.isPort, h]) s
    exact ⟨_, e⟩
  · obtain ⟨e, h, -⟩ | h | ⟨e, h, -⟩ | ⟨x, R, e, h, -⟩ | ⟨x, R, b, -, -, -, h⟩ | ⟨-, -, -, d, h⟩ | ⟨-, -, -, d, h⟩ |
      ⟨-, c, h⟩ := exec_command_cases h s <;> exact ⟨_, h⟩

/-- The completion of the command in flight answers a next state. -/
theorem completeInFlight_next (s : State) : ∃ t, s.completeInFlight = .next t := by
  unfold State.completeInFlight
  split
  · exact exec_next _ _
  · exact ⟨_, rfl⟩

/-- Every command ends with the port free and the pulse up (R180). -/
theorem exec_command_completes {i : Instr} (hi : i.isCommand = true) {s t : State} (h : exec i s = .next t) :
    t.BUSY = false ∧ t.rspValid = true := by
  obtain ⟨e, h', -⟩ | h' | ⟨e, h', -⟩ | ⟨x, R, e, h', -⟩ | ⟨x, R, b, -, -, -, h'⟩ | ⟨-, -, -, d, h'⟩ | ⟨-, -, -, d, h'⟩ |
    ⟨-, c, h'⟩ := exec_command_cases hi s <;> rw [h'] at h <;> cases h
  case inr.inr.inr.inr.inr.inr.inl =>
    obtain ⟨-, e⟩ | ⟨-, e⟩ := boundary_cases d ({ s with CUR := s.CUR + 1 }) <;> rw [e] <;> exact ⟨rfl, rfl⟩
  all_goals exact ⟨rfl, rfl⟩

/-- Whatever word was in flight, its completion leaves the port free and the pulse up (R254). -/
theorem completeInFlight_completes {s t : State} (h : s.completeInFlight = .next t) :
    t.BUSY = false ∧ t.rspValid = true := by
  unfold State.completeInFlight at h
  split at h
  · rename_i i hd
    exact exec_command_completes (decode_isCommand hd) h
  · cases h
    exact ⟨rfl, rfl⟩

/-- What a step is made of: a property of states that every operation, the completion of an illegal word, every edge and
every input of the host keep is kept by every step. -/
theorem step_preserves {P : State → Prop}
    (hexec : ∀ i s t, P s → exec i s = .next t → P t)
    (hillegal : ∀ s, P s → P (s.raise .illegalCommand))
    (haccept : ∀ s w, P s → P (s.accept w))
    (hdrop : ∀ s, P s → P s.dropPulses)
    (hhost : ∀ s h, P s → P { s with host := h })
    (hpins : ∀ s p, P s → P { s with pins := p })
    (hpe : ∀ s x R, P s → P (s.peStart x R))
    (hkg : ∀ s x R, P s → P (s.kgStart x R))
    (hendPe : ∀ s, P s → P s.endPe)
    (hendKg : ∀ s, P s → P s.endKg)
    (hrst : ∀ s, P s → P s.hardReset)
    {s t : State} (hs : P s) (h : step s = .next t) : P t := by
  have complete : ∀ s t, P s → s.completeInFlight = .next t → P t := by
    intro s t hs h
    unfold State.completeInFlight at h
    split at h
    · exact hexec _ _ _ hs h
    · cases h
      exact hillegal _ hs
  have settle : ∀ s t, P s → s.settle = .next t → P t := by
    intro s t hs h
    have he : P s.dropPulses.endPe.endKg := hendKg _ (hendPe _ (hdrop _ hs))
    unfold State.settle at h
    split at h
    · exact complete _ _ he h
    · cases h
      exact he
  have present : ∀ w s a t, P s → P a → s.present w a = .next t → P t := by
    intro w s a t hs ha h
    unfold State.present at h
    split at h
    · exact settle _ _ ha h
    · exact complete _ _ (haccept _ _ hs) h
  unfold step at h
  split at h
  · exact settle _ _ hs h
  · rename_i m rest _
    have hr := hhost s rest hs
    cases m with
    | drive p =>
      cases h
      exact hpins _ _ hr
    | issue w => exact present _ _ _ _ hr hs h
    | accept w =>
      change State.presentAccept w _ _ = _ at h
      unfold State.presentAccept at h
      split at h
      · exact settle _ _ hs h
      · cases h
        exact haccept _ _ hr
    | op i =>
      change State.perform i _ _ = _ at h
      unfold State.perform at h
      split at h
      · exact present _ _ _ _ hr hs h
      · exact hexec _ _ _ (hdrop _ hr) h
    | peStart x R =>
      cases h
      exact hpe _ _ _ (hdrop _ hr)
    | kgStart x R =>
      cases h
      exact hkg _ _ _ (hdrop _ hr)
    | wait => exact settle _ _ hr h
    | idle =>
      cases h
      exact hdrop _ hr
    | rst =>
      cases h
      exact hrst _ hr

/-! ### The session invariant -/

/-- The session invariant is about the session registers alone. -/
theorem SessionInv.of_kept {s t : State} (h : SessionInv s) (k : SessionKept s t) : SessionInv t := by
  constructor
  · rw [k.VALID, k.S, k.KS, k.CUR, k.RND, k.EXH]
    exact h.none
  · rw [k.VALID, k.S, k.RND]
    exact h.live
  · rw [k.VALID, k.S, k.RND, k.KS, k.EXH]
    exact h.block
  · rw [k.VALID, k.S, k.CUR, k.EXH]
    exact h.exhausted

/-- Zeroized session registers meet the session invariant (R188). -/
theorem SessionInv.of_zeroized {s t : State} (k : SessionKept s.zeroize t) : SessionInv t := by
  apply SessionInv.of_kept (s := s.zeroize) _ k
  constructor <;> simp

/-! ### PBYTE from the host -/

theorem pbyteWord_row (b : Byte) : pbyteWord b &&& 0xFFFF00FF = 2 := by
  apply BitVec.eq_of_getLsbD_eq
  intro i hi
  simp only [pbyteWord]
  interval_cases i <;> simp

theorem dataField_pbyteWord (b : Byte) : dataField (pbyteWord b) = b := by
  apply BitVec.eq_of_getLsbD_eq
  intro i hi
  simp only [pbyteWord, dataField]
  interval_cases i <;> simp

/-- The word of PBYTE decodes to it (R82). -/
theorem decode_pbyteWord (b : Byte) : decode (pbyteWord b) = .instr (.pbyte b) := by
  have row := pbyteWord_row b
  have h0 : pbyteWord b ≠ 0 := fun h => by
    rw [h] at row
    exact absurd row (by decide)
  have h1 : pbyteWord b ≠ 1 := fun h => by
    rw [h] at row
    exact absurd row (by decide)
  rw [decode_eq, if_neg h0, if_neg h1, if_pos row, dataField_pbyteWord]

/-- A PBYTE from the host on a free port is the operation on the accepted state (R12). -/
theorem transact_pbyteWord (b : Byte) (s : State) :
    s.transact (pbyteWord b) = execPbyte b (s.accept (pbyteWord b)) := by
  have e : (s.accept (pbyteWord b)).latch.cmd = pbyteWord b := rfl
  unfold State.transact State.completeInFlight
  rw [e, decode_pbyteWord]
  rfl

end Sys2Proof.Machine
end

