-- ==== Sys2Proof/Tests/Slice0.lean ====
section
/-! SUPPORT. Tests of the model. Expected values are those of spec/95_test_vectors.md, or words written out bit by bit from
30_encoding.md R72 and R73. -/

namespace Sys2Proof.Tests

open Sys2Proof.Machine Host

/-! ### Helpers -/

/-- The next state, if there is one. -/
def nextOf (o : Outcome State Fault Refusal) : Option State :=
  match o with
  | .next t => some t
  | .fault _ => none
  | .refused _ => none

/-- A block written as the spec writes it: 64 bytes in hexadecimal, byte 0 first. -/
def blockOf (n : Nat) : Block64 := Vector.ofFn fun j : Fin 64 => BitVec.ofNat 8 (n >>> (8 * (63 - j.val)))

/-- A state written as the spec writes it: 16 words in hexadecimal, word 0 first. -/
def wordsOf (n : Nat) : Words16 := Vector.ofFn fun i : Fin 16 => BitVec.ofNat 32 (n >>> (32 * (15 - i.val)))

/-- V-SET-1: the state of a 16-byte zero key and a zero nonce. -/
def set1 : Words16 :=
  wordsOf 0x61707865000000000000000000000000000000003120646e0000000000000000000000000000000079622d36000000000000000000000000000000006b206574

/-- V-KS-1: its block with 20 rounds. -/
def ks1 : Block64 :=
  blockOf 0x6513adaecfeb124c1cbe6bdaef690b4ffb00b0fcace33ce806792bb41480199834bfb1cfdd095802c6e95e251002989ac22ae588d32ae79320d9bd7732e00338

/-- V-KS-4a: its block with 2 rounds. -/
def ks4a : Block64 :=
  blockOf 0xc56f2173ddb441a4befdd1a097d261e6ad139df38b1e0594d8ef3002316db906941ab9b245daef3cd44208c25b4c34b82a33acee5f2dc61a12ba07fdc5ff1789

/-- A key of `kl` zero bytes, a nonce of `nl` zero bytes, round count `R`. -/
def zeroOps (kl nl : Byte) (R : Word) : Operands :=
  { Operands.zero with keyLen := kl, nonceLen := nl, roundsIn := R }

/-- The reset state of a part with or without the hook. -/
def part (hook : Bool) : State := State.resetWith { hasTestHook := hook }

/-- A reset state with a command's operands sampled. -/
def sampled (hook : Bool) (o : Operands) : State := { part hook with latch := { cmd := 0, ops := o }, BUSY := true }

/-- A session of V-SET-1 with 20 rounds at counter 0 and cursor 0: the registers of V-SC-6. -/
def session (hook : Bool) : State := { part hook with S := set1, KS := ks1, RND := 20, VALID := true }

/-- A session of V-SET-1 with 2 rounds at any counter and cursor, its block the generated one. -/
def sessionAt (hook : Bool) (c : BitVec 64) (cur : BitVec 6) : State :=
  { part hook with
    S := setCtr set1 c, KS := keystream (setCtr set1 c) 2 0, RND := 2, VALID := true, CUR := cur }

/-- An exhausted session. -/
def spent (hook : Bool) : State := { sessionAt hook 0 0 with EXH := true }

/-! ### Well-formedness: an ill-formed term for each check -/

theorem test_mix_is_no_command : Instr.isCommand (.mix 0 0 0) = false := by decide
theorem test_nop_is_no_port_operation : Instr.isPort .nop = false := by decide
theorem test_setctr_needs_the_hook :
    Instr.onPart { hasTestHook := false } .setctr = false ∧ Instr.onPart { hasTestHook := true } .setctr = true := by
  decide
theorem test_wellformed_terms :
    Instr.isCommand (.pbyte 0) = true ∧ Instr.isPort (.ksgen zeroWords 20) = true ∧
      Instr.onPart { hasTestHook := false } .wipe = true := by decide

/-! ### Words written bit by bit: reserved [31:16], DATA [15:8], reserved [7:4], OP [3:0] -/

theorem test_decode_nop : decode 0b0000000000000000_00000000_0000_0000 = .instr .nop := by decide
theorem test_decode_init : decode 0b0000000000000000_00000000_0000_0001 = .instr .init := by decide
theorem test_decode_pbyte : decode 0b0000000000000000_10100101_0000_0010 = .instr (.pbyte 0b10100101) := by decide
theorem test_decode_reset : decode 0b0000000000000000_00000000_0000_0011 = .instr .reset := by decide
theorem test_decode_wipe : decode 0b0000000000000000_00000000_0000_0100 = .instr .wipe := by decide
theorem test_decode_setctr : decode 0b0000000000000000_00000000_0000_0101 = .instr .setctr := by decide
theorem test_decode_reserved_opcodes :
    decode 0b0000000000000000_00000000_0000_0110 = .illegal .reservedOpcode ∧
    decode 0b0000000000000000_00000000_0000_1111 = .illegal .reservedOpcode := by decide
theorem test_decode_reserved_bits :
    decode 0b0000000000000000_00000000_0001_0000 = .illegal .reservedBits ∧
    decode 0b0000000000000001_00000000_0000_0010 = .illegal .reservedBits ∧
    decode 0b1000000000000000_00000000_0000_0010 = .illegal .reservedBits := by decide
theorem test_decode_data_field :
    decode 0b0000000000000000_00000001_0000_0001 = .illegal .dataField ∧
    decode 0b0000000000000000_10000000_0000_0000 = .illegal .dataField := by decide
theorem test_encode_pbyte : encode (.pbyte 0b10100101) = some 0b0000000000000000_10100101_0000_0010 := by decide
theorem test_decodeTableWord :
    decodeTableWord 32 0xA502 = some (.pbyte 0xA5) ∧ decodeTableWord 32 6 = none ∧
      decodeTableWord 40 0x100000001 = none := by decide
/-- A fetched SETCTR runs as the first command after reset: V-SC-4, on a part without the hook. -/
theorem test_withFetchWord :
    (nextOf (step (State.reset.withFetchWord 32 5))).map (fun t => t.status) = some 0x00001c00 := by decide +kernel

/-! ### Commands (95 section 4) -/

/-- V-SC-1. -/
theorem test_nop : (nextOf ((part false).give { word := 0, ops := Operands.zero })).map (fun t => (t.response, t.status)) =
    some ({ data := 0, dv := false, err := .ok }, 0x00000000) := by decide +kernel
/-- V-SC-2. -/
theorem test_pbyte_no_session :
    (nextOf ((part false).give { word := 2, ops := Operands.zero })).map (fun t => (t.response, t.status)) =
      some ({ data := 0, dv := false, err := .noSession }, 0x00001800) := by decide +kernel
/-- V-SC-6. -/
theorem test_init :
    (nextOf ((part false).give { word := 1, ops := zeroOps 16 8 20 })).map
      (fun t => (t.S, t.KS, t.RND, t.status, t.response)) =
    some (set1, ks1, 20, 0x00000002, { data := 0, dv := false, err := .ok }) := by decide +kernel
/-- V-SC-12: a failed INIT destroys the live session. -/
theorem test_init_fails :
    (nextOf ((session false).give { word := 1, ops := zeroOps 17 8 20 })).map
      (fun t => (t.S, t.KS, t.RND, t.status, t.response)) =
    some (zeroWords, zeroBlock, 0, 0x00000400, { data := 0, dv := false, err := .invalidKeyLength }) := by decide +kernel
/-- V-SC-8. -/
theorem test_pbyte :
    (nextOf ((session false).give { word := 0x0000A502, ops := Operands.zero })).map
      (fun t => (t.response, t.CUR, t.status)) =
    some ({ data := 0xc0, dv := true, err := .ok }, 1, 0x00000012) := by decide +kernel
/-- P3 step 66: the last byte of the last block is valid, and exhausts the session. -/
theorem test_pbyte_exhausts :
    (nextOf (({ session true with
        S := setCtr set1 0xFFFFFFFFFFFFFFFF, KS := ks1.set 63 0xf5, CUR := 63 } : State).give
        { word := 2, ops := Operands.zero })).map (fun t => (t.response, t.status, t.ctrOut)) =
    some ({ data := 0xf5, dv := true, err := .nonceLimitExceeded }, 0x0000140e, 0) := by decide +kernel
/-- P6: the carry from word 8 into word 9. -/
theorem test_carry : incrCtr (setCtr set1 0x00000000FFFFFFFF) = setCtr set1 0x0000000100000000 := by decide
/-- P2 step 67. -/
theorem test_reset :
    (nextOf (({ session false with S := setCtr set1 1, KS := zeroBlock, CUR := 1 } : State).give
        { word := 3, ops := Operands.zero })).map (fun t => (t.S, t.KS, t.status)) =
    some (set1, ks1, 0x00000002) := by decide +kernel
/-- V-SC-3. -/
theorem test_reset_no_session :
    (nextOf ((part false).give { word := 3, ops := Operands.zero })).map (fun t => (t.response, t.status)) =
      some ({ data := 0, dv := false, err := .noSession }, 0x00001800) := by decide +kernel
/-- V-SC-15, on a part with the hook. -/
theorem test_wipe :
    (nextOf ((session true).give { word := 4, ops := Operands.zero })).map (fun t => (t.S, t.KS, t.kg, t.status)) =
      some (zeroWords, zeroBlock, Generator.zero, 0x00000008) := by decide +kernel
/-- V-SC-13: SETCTR 1 with 5 bytes gone. The first byte of V-KS-2 is d0. -/
theorem test_setctr :
    (nextOf (({ session true with CUR := 5 } : State).give
        { word := 5, ops := { Operands.zero with ctrIn := 1 } })).map (fun t => (t.KS[0], t.CUR, t.ctrOut, t.status)) =
      some (0xd0, 0, 1, 0x0000000a) := by decide +kernel
/-- V-SC-10: an illegal word leaves the session. -/
theorem test_illegal_word :
    (nextOf ((session false).give { word := 0x00000101, ops := Operands.zero })).map
      (fun t => (t.response, t.status)) =
    some ({ data := 0, dv := false, err := .illegalCommand }, 0x00001c02) := by decide +kernel

/-! ### Inner modules (95 sections 2 and 3) -/

/-- V-MIX-8. -/
theorem test_mix : mix 0x12345678 0x9abcdef0 18 = 0xd5a2b3c4 := by decide
/-- V-MIX-4: rotation by 0. -/
theorem test_mix_zero : mix 0x12345678 0x00000000 0 = 0x12345678 := by decide
/-- V-QR-6. -/
theorem test_qround :
    qround 0xe7e8c006 0xc4f9417d 0x6479b4b2 0x68c67137 =
      { a := 0xe876d72b, b := 0x9361dfd5, c := 0xf1460244, d := 0x948541a3 } := by decide
/-- V-QR-3: the third word uses the updated second one. -/
theorem test_qround_updates : qround 0 1 0 0 = { a := 0x88000100, b := 1, c := 0x200, d := 0x00402000 } := by decide

/-- The input of V-RND-6. -/
def rnd6 : Words16 :=
  wordsOf 0x08521bd61fe88837bb2aa5763aa26365c54c6a5b2fc74c2f6dd39cc3da0a64f690a2f23d067f95a606b35f6141e4732ee859c100ea4d84b70f619bffbc6e965a

/-- V-RND-7. -/
theorem test_colround :
    colround rnd6 =
      wordsOf 0x8c9d190ace8e4c901ef8e9d31326a71a90a20123ead3c4f363a091a0f0708d69789b010cd195a681eb7d5504a774135c481c202753a8e4b54c1f89c53f78c9c8 := by
  decide +kernel
/-- V-RND-6. -/
theorem test_rowround :
    rowround rnd6 =
      wordsOf 0xa890d39d65d71596e9487daac8ca6a86949d2192764b7754e408d9b97a41b4d13402e1833c3af43250669f96d89ef0a80040ede5b545fbced257ed4f1818882d := by
  decide +kernel
/-- V-RND-8. -/
theorem test_dround :
    dround rnd6 =
      wordsOf 0xfecbb9b62f6e5edf08173aaba017e1eaf84dd621e6d89885d9439a9ddecface176d60d3f2a4d921a961bd18a2e09d1828435e6e20ec9b132bf1d1b9a0c4bfe53 := by
  decide +kernel
/-- V-PE-1, at the engine's ports. -/
theorem test_permute :
    (nextOf (exec (.permute set1 20) (part false))).map
      (fun t => (t.bench.pe.done, t.bench.pe.err, t.bench.pe.stateOut)) =
    some (true, .ok,
      wordsOf 0x4d3c9b004c12ebcfda6bbe1c4f0b69effcb000fbb71c7f3eb42b790698198014cfb1bf34025809ddabfcbc909a98021088e52ac293e72ad377bdd920cce37abe) := by
  decide +kernel
/-- V-PE-4. -/
theorem test_permute_odd :
    (nextOf (exec (.permute set1 0xFFFFFFFF) (part false))).map (fun t => (t.bench.pe.done, t.bench.pe.err)) =
      some (true, .invalidRoundCount) := by decide +kernel
/-- V-SET-3: the key bytes 01 .. 20 and the nonce bytes 03 01 04 01 05 09 02 06, byte 0 lowest. -/
theorem test_setup :
    setup 0x201f1e1d1c1b1a191817161514131211100f0e0d0c0b0a090807060504030201 32 0x0602090501040103 8 =
      .ok (wordsOf 0x6170786504030201080706050c0b0a09100f0e0d3320646e0104010306020905000000000000000079622d3214131211181716151c1b1a19201f1e1d6b206574) := by
  decide +kernel
/-- V-SET-7: the key is checked first. -/
theorem test_setup_key_first : setup 0 15 0 7 = .err .invalidKeyLength ∧ setup 0 16 0 7 = .err .invalidNonceLength := by
  decide
/-- V-KS-4a, at the generator's ports. -/
theorem test_ksgen :
    (nextOf (exec (.ksgen set1 2) (part false))).map
      (fun t => (t.bench.kg.done, t.bench.kg.err, t.bench.kg.block)) = some (true, .ok, ks4a) := by decide +kernel
/-- V-KS-12. -/
theorem test_ksgen_odd :
    (nextOf (exec (.ksgen set1 21) (part false))).map (fun t => (t.bench.kg.done, t.bench.kg.err)) =
      some (true, .invalidRoundCount) := by decide +kernel

/-! ### The host's side (95 section 5) -/

/-- P7 step 2: `ENCRYPT 4869`. -/
theorem test_pbytes :
    ((pbytes [0x48, 0x69] (session false)).out, (pbytes [0x48, 0x69] (session false)).state.status) =
      ([0x2d, 0x7a], 0x00000022) := by decide +kernel
/-- P4 step 1's line. -/
theorem test_readLine_init :
    readLine "INIT key=, nonce=0000000000000000, klen=0 ; P4".toList =
      some (.init [] [0, 0, 0, 0, 0, 0, 0, 0] none (some 0) none) := by decide
theorem test_readLine_pbyte :
    readLine "PBYTE 0xA5".toList = some (.pbyte 0xA5) ∧ readLine "PBYTE 256".toList = none ∧
      readLine "DECRYPT 3ddd".toList = some (.decrypt [0x3d, 0xdd]) ∧ readLine "PBYTES ;".toList = some (.pbytes []) := by
  decide

/-! ### Witnesses: states and operands that meet the hypotheses of each statement, clause by clause -/

theorem test_witness_DecodeInvertsEncode :
    Instr.isCommand (.pbyte 0xFF) = true ∧ Instr.isPort (.mix 0 0 31) = true := by decide

theorem test_witness_EncodeInvertsDecode : decode 0x0000FF02 = .instr (.pbyte 0xFF) := by decide

theorem test_witness_IllegalWordsMatchNoRow :
    decode 0xFFFFFFFF = .illegal .reservedOpcode ∧ decode 0xFFFFFFF5 = .illegal .reservedBits ∧
      decode 0x0000FF05 = .illegal .dataField := by decide

theorem test_witness_StepRunsTheIssuedCommand :
    (∃ s : State, s.host = .issue 0x0000FF02 :: [] ∧ s.BUSY = false ∧ decode 0x0000FF02 = .instr (.pbyte 0xFF)) ∧
      decodeTableWord 32 5 = some .setctr :=
  ⟨⟨{ State.reset with host := [.issue 0x0000FF02] }, rfl, rfl, by decide⟩, by decide⟩

theorem test_witness_StepPerformsTheNamedOperation :
    (∃ s : State, s.host = .op (.mix 1 2 3) :: [] ∧ Instr.isPort (.mix 1 2 3) = true) ∧
      ∃ s : State, s.host = .op .wipe :: [] ∧ encode .wipe = some 4 ∧ s.BUSY = false :=
  ⟨⟨{ State.reset with host := [.op (.mix 1 2 3)] }, rfl, rfl⟩, ⟨{ State.reset with host := [.op .wipe] }, rfl, rfl, rfl⟩⟩

theorem test_witness_AcceptanceSamplesTheOperands :
    ∃ s : State, s.host = .accept 1 :: [] ∧ s.BUSY = false :=
  ⟨{ session true with host := [.accept 1] }, rfl, rfl⟩

theorem test_witness_LaterOperandsHaveNoEffect : Instr.isCommand .init = true := by decide

/-- A legal word in flight with the modules idle, and an illegal one with an engine at work. -/
theorem test_witness_BusyPortCompletesFirst :
    (∃ s : State, s.host = .issue 4 :: [] ∧ s.BUSY = true ∧ s.bench.pe.busy = false ∧ s.bench.kg.busy = false ∧
      decode s.latch.cmd = .instr .nop) ∧
    ∃ s : State, s.host = .accept 4 :: [] ∧ s.BUSY = true ∧ s.bench.pe.busy = true ∧
      decode s.latch.cmd = .illegal .reservedOpcode :=
  ⟨⟨{ State.reset with host := [.issue 4], BUSY := true }, rfl, rfl, rfl, rfl, by decide⟩,
    ⟨{ State.reset.peStart set1 20 with
        host := [.accept 4], BUSY := true, latch := { cmd := 6, ops := Operands.zero } },
      rfl, rfl, rfl, by decide⟩⟩

/-- A step that accepts, and one that ends with the command still in flight. -/
theorem test_witness_StatusWhileBusyIsTheOldOne :
    (∃ s t : State, s.BUSY = false ∧ step s = .next t ∧ t.BUSY = true) ∧
      ∃ s t : State, s.BUSY = true ∧ step s = .next t ∧ t.BUSY = true :=
  ⟨⟨{ session true with host := [.accept 1] }, _, rfl, rfl, rfl⟩,
    ⟨{ session true with BUSY := true, host := [.idle] }, _, rfl, rfl, rfl⟩⟩

theorem test_witness_LatencyDoesNotShow :
    (session false).BUSY = false ∧ (session false).bench.pe.busy = false ∧ (session false).bench.kg.busy = false := by
  decide

/-- An idle edge, and ports driven in the cycle of a pulse. -/
theorem test_witness_ResponseIsHeld :
    (∃ s t : State, step s = .next t ∧ s.host.head? ≠ some HostMove.rst ∧ t.rspValid = false) ∧
      ∃ s t : State, step s = .next t ∧ s.host.head? ≠ some HostMove.rst ∧ t.rspValid = true ∧
        s.host.head? = some (HostMove.drive Operands.zero) :=
  ⟨⟨{ State.reset with host := [.idle] }, _, rfl, by decide, rfl⟩,
    ⟨{ State.reset with host := [.drive Operands.zero], rspValid := true }, _, rfl, by decide, rfl, rfl⟩⟩

/-- Each way of stepping without a completion. -/
theorem test_witness_StepsWithoutACompletionHold :
    ((session true).BUSY = false ∧ (session true).host = []) ∧
    ([HostMove.wait].head? = some .wait ∧ [HostMove.accept 1].head? = some (.accept 1) ∧
      [HostMove.idle].head? = some .idle ∧ [HostMove.drive Operands.zero].head? = some (.drive Operands.zero) ∧
      [HostMove.peStart set1 20].head? = some (.peStart set1 20) ∧
      [HostMove.kgStart set1 20].head? = some (.kgStart set1 20)) ∧
    [HostMove.op (.mix 1 2 3)].head? = some (.op (.mix 1 2 3)) ∧ Instr.isPort (.mix 1 2 3) = true :=
  ⟨⟨rfl, rfl⟩, ⟨rfl, rfl, rfl, rfl, rfl, rfl⟩, rfl, rfl⟩

theorem test_witness_HardwareResetTakesResetValues : ∃ s : State, s.host = .rst :: [] ∧ s.BUSY = true :=
  ⟨{ session true with host := [.rst], BUSY := true }, rfl, rfl⟩

theorem test_witness_IllegalWordOnlyResponds :
    (∃ s : State, s.host = .issue 6 :: [] ∧ s.BUSY = false ∧ decode 6 = .illegal .reservedOpcode) ∧
      ∃ s : State, s.host = .issue 5 :: [] ∧ s.BUSY = false ∧ s.cfg.hasTestHook = false :=
  ⟨⟨{ session false with host := [.issue 6] }, rfl, rfl, by decide⟩,
    ⟨{ session false with host := [.issue 5] }, rfl, rfl, rfl⟩⟩

/-- Both key lengths, and the smallest and the largest round count. -/
theorem test_witness_InitCreatesTheSession :
    (∃ s : State, s.latch.ops.keyLen = 16 ∧ s.latch.ops.nonceLen = 8 ∧ s.latch.ops.roundsIn ≠ 0 ∧
      s.latch.ops.roundsIn.toNat % 2 = 0) ∧
    ∃ s : State, s.latch.ops.keyLen = 32 ∧ s.latch.ops.nonceLen = 8 ∧ s.latch.ops.roundsIn ≠ 0 ∧
      s.latch.ops.roundsIn.toNat % 2 = 0 :=
  ⟨⟨sampled false (zeroOps 16 8 2), rfl, rfl, by decide, by decide⟩,
    ⟨sampled false (zeroOps 32 8 0xFFFFFFFE), rfl, rfl, by decide, by decide⟩⟩

/-- Each error, at lengths beside the legal ones and at the round counts 0 and 2^32 - 1. -/
theorem test_witness_FailedInitLeavesNoSession :
    (∀ kl : Byte, kl = 0 ∨ kl = 15 ∨ kl = 17 ∨ kl = 31 ∨ kl = 33 → kl ≠ 16 ∧ kl ≠ 32) ∧
    (∃ s : State, s.latch.ops.keyLen = 32 ∧ s.latch.ops.nonceLen ≠ 8) ∧
    (∃ s : State, s.latch.ops.keyLen = 16 ∧ s.latch.ops.nonceLen = 8 ∧ s.latch.ops.roundsIn = 0) ∧
    ∃ s : State, s.latch.ops.keyLen = 16 ∧ s.latch.ops.nonceLen = 8 ∧ s.latch.ops.roundsIn.toNat % 2 = 1 :=
  ⟨by decide, ⟨sampled false (zeroOps 32 9 20), rfl, by decide⟩, ⟨sampled false (zeroOps 16 8 0), rfl, rfl, rfl⟩,
    ⟨sampled false (zeroOps 16 8 0xFFFFFFFF), rfl, rfl, by decide⟩⟩

theorem test_witness_InitForgetsThePast :
    ∃ s t : State, s.latch.ops = t.latch.ops ∧ s.VALID ≠ t.VALID :=
  ⟨sampled true (zeroOps 16 8 20), { session true with latch := { cmd := 1, ops := zeroOps 16 8 20 } }, rfl, by decide⟩

theorem test_witness_ShortKeyIgnoresTheUpperHalf :
    (zeroOps 16 8 20).keyLen = 16 ∧
      BitVec.extractLsb' 0 128 (1#256 <<< 128) = (zeroOps 16 8 20).keyIn.extractLsb' 0 128 := by decide

/-- The first and the last cursor inside a block. -/
theorem test_witness_PbyteInsideABlock :
    (∃ s : State, s.VALID = true ∧ s.EXH = false ∧ s.CUR = 0 ∧ s.CUR ≠ 63) ∧
      ∃ s : State, s.VALID = true ∧ s.EXH = false ∧ s.CUR = 62 ∧ s.CUR ≠ 63 :=
  ⟨⟨sessionAt false 0 0, rfl, rfl, rfl, by decide⟩, ⟨sessionAt false 0 62, rfl, rfl, rfl, by decide⟩⟩

theorem test_witness_PbyteAtTheBlockBoundary :
    (∃ s : State, s.VALID = true ∧ s.EXH = false ∧ s.CUR = 63 ∧ roundsOk s.RND = true ∧
      ctrOf s.S ≠ 0xFFFFFFFFFFFFFFFF) ∧
    ∃ s : State, s.VALID = true ∧ s.EXH = false ∧ s.CUR = 63 ∧ roundsOk s.RND = true ∧
      ctrOf s.S = 0xFFFFFFFFFFFFFFFF :=
  ⟨⟨sessionAt false 0xFFFFFFFFFFFFFFFE 63, rfl, rfl, rfl, rfl, by rw [sessionAt, ctrOf_setCtr]; decide⟩,
    ⟨sessionAt false 0xFFFFFFFFFFFFFFFF 63, rfl, rfl, rfl, rfl, by rw [sessionAt, ctrOf_setCtr]⟩⟩

theorem test_witness_ExhaustedSessionRefusesBytes :
    (spent true).VALID = true ∧ (spent true).EXH = true ∧ (spent true).phase = .exhausted ∧
      (spent true).cfg.hasTestHook = true ∧ (spent false).cfg.hasTestHook = false ∧ (spent false).phase = .exhausted ∧
      (∃ t, exec .nop (spent true) = .next t) ∧ (∃ t, exec .setctr (spent false) = .next t) ∧
      (∃ t, exec .reset (spent true) = .next t) ∧ (∃ t, exec .wipe (spent true) = .next t) ∧
      (∃ t, exec .init (spent true) = .next t) ∧ ∃ t, exec .setctr (spent true) = .next t :=
  ⟨rfl, rfl, rfl, rfl, rfl, rfl, exec_next _ _, exec_next _ _, exec_next _ _, exec_next _ _, exec_next _ _, exec_next _ _⟩

theorem test_witness_CommandsThatNeedASession :
    (part true).VALID = false ∧ (part true).cfg.hasTestHook = true ∧
      (nextOf (exec .init (part true))).isSome = true ∧ (nextOf (exec .wipe (part true))).isSome = true := by
  decide

theorem test_witness_ResetRestartsTheStream :
    (spent false).VALID = true ∧ roundsOk (spent false).RND = true ∧ (part false).VALID = false := ⟨rfl, rfl, rfl⟩

theorem test_witness_SetctrMovesTheCounter :
    ((spent true).cfg.hasTestHook = true ∧ (spent true).VALID = true ∧ roundsOk (spent true).RND = true) ∧
    (session false).cfg.hasTestHook = false ∧
    ((part true).cfg.hasTestHook = true ∧ (part true).VALID = false) := ⟨⟨rfl, rfl, rfl⟩, rfl, rfl, rfl⟩

theorem test_witness_SetctrZeroIsReset :
    (session true).cfg.hasTestHook = true ∧ (session true).latch.ops.ctrIn = 0 := ⟨rfl, rfl⟩

theorem test_witness_IdempotentCommands :
    (session true).VALID = true ∧ roundsOk (session true).RND = true := ⟨rfl, rfl⟩

theorem test_witness_OnlyInitAndWipeWriteTheKeyPart :
    ∃ t, exec (.mix 1 2 3) (session true) = .next t := ⟨_, rfl⟩

theorem test_witness_CounterNeverFalls :
    ∃ t, exec (.pbyte 0) (sessionAt false 0xFFFFFFFFFFFFFFFF 63) = .next t := exec_next _ _

/-- Two sessions of different keys, with the same status, counter, operands and next keystream byte. -/
theorem test_witness_HostSeesNoKeyMaterial :
    ∃ s t s' t' : State, s.S ≠ t.S ∧ s.status = t.status ∧ s.ctrOut = t.ctrOut ∧ s.latch.ops = t.latch.ops ∧
      s.KS[s.CUR.toNat] = t.KS[t.CUR.toNat] ∧ exec (.pbyte 1) s = .next s' ∧ exec (.pbyte 1) t = .next t' :=
  ⟨session true, { session true with S := set1.set 1 7 }, _, _, by decide +kernel, rfl, by decide +kernel, rfl, rfl, rfl, rfl⟩

theorem sessionInv_sessionAt (hook : Bool) (c : BitVec 64) (cur : BitVec 6) : SessionInv (sessionAt hook c cur) := by
  have hr : roundsOk 2 = true := by decide
  constructor
  · intro h
    cases h
  · exact fun _ => ⟨hr, (keyPartKept_setCtr set1 c).constants (.inr (by decide))⟩
  · exact fun _ _ => ksgen_eq_keystream _ hr 0
  · intro _ h
    cases h

theorem sessionInv_spent (hook : Bool) : SessionInv (spent hook) := by
  have h := sessionInv_sessionAt hook 0 0
  exact ⟨fun hv => (by cases hv), h.live, fun _ he => (by cases he), fun _ _ => ⟨rfl, ctrOf_setCtr set1 0⟩⟩

/-- A live and an exhausted session, each stepped. -/
theorem test_witness_SessionInvariantKept :
    (∃ s t : State, SessionInv s ∧ s.VALID = true ∧ s.EXH = false ∧ step s = .next t) ∧
      ∃ s t : State, SessionInv s ∧ s.VALID = true ∧ s.EXH = true ∧ step s = .next t :=
  ⟨⟨sessionAt true 0 63, _, sessionInv_sessionAt true 0 63, rfl, rfl, rfl⟩,
    ⟨spent true, _, sessionInv_spent true, rfl, rfl, rfl⟩⟩

theorem portInv_sessionAt (hook : Bool) (c : BitVec 64) (cur : BitVec 6) : PortInv (sessionAt hook c cur) := by
  constructor <;> simp [sessionAt, part, State.resetWith, Generator.zero, Engine.zero, Bench.zero]

theorem test_witness_PortInvariantKept :
    ∃ s t : State, PortInv s ∧ s.VALID = true ∧ step s = .next t :=
  ⟨sessionAt true 0 63, _, portInv_sessionAt true 0 63, rfl, rfl⟩

theorem test_witness_CounterReadout : SessionInv (part true) ∧ (part true).VALID = false := by
  refine ⟨?_, rfl⟩
  constructor <;> simp [part, State.resetWith]

/-- An idle and a busy engine, a valid, a zero and an odd round count. -/
theorem test_witness_PermuteRunsHalfTheRounds :
    (part false).bench.pe.busy = false ∧ ((part false).peStart set1 20).bench.pe.busy = true ∧
      (0xFFFFFFFE : Word) ≠ 0 ∧ (0xFFFFFFFE : Word).toNat % 2 = 0 ∧ (0xFFFFFFFF : Word).toNat % 2 = 1 := by
  decide

theorem test_witness_PermuteIsABijection : roundsOk 2 = true ∧ roundsOk 0xFFFFFFFE = true := by decide

theorem test_witness_SetupPlacesKeyNonceAndConstants :
    ((16 : Byte) = 16 ∨ (16 : Byte) = 32) ∧ ((32 : Byte) = 16 ∨ (32 : Byte) = 32) := by decide

theorem test_witness_KsgenSerializesTheAddBack :
    (part false).bench.kg.busy = false ∧ ((part false).kgStart set1 20).bench.kg.busy = true ∧
      permute set1 2 = .ok (dround set1) ∧ (0xFFFFFFFF : Word).toNat % 2 = 1 := by
  decide

theorem test_witness_EngineHandshake :
    (part false).BUSY = false ∧ (part false).bench.pe.busy = false ∧ permute set1 2 = .ok (dround set1) := by decide

theorem test_witness_GeneratorHandshake :
    (part false).BUSY = false ∧ (part false).bench.kg.busy = false ∧ ksgen set1 2 = .ok ks4a := by decide +kernel

theorem test_witness_InitAndResetStartTheStream :
    (∃ s t : State, exec .init s = .next t ∧ t.RSP_ERR = .ok) ∧
      ∃ s t : State, s.VALID = true ∧ roundsOk s.RND = true ∧ exec .reset s = .next t := by
  refine ⟨⟨sampled false (zeroOps 16 8 2), ?_⟩, ⟨spent true, _, rfl, rfl, rfl⟩⟩
  obtain ⟨e, hs, -⟩ | ⟨x, e, -, hk, -⟩ | ⟨x, b, -, -, h⟩ := execInit_cases (sampled false (zeroOps 16 8 2))
  · have ok : setup 0 16 0 8 = .ok (layout tau 0 0 0) := rfl
    cases ok.symm.trans hs
  · exact absurd (ksgen_err_eq hk).2 (by decide)
  · exact ⟨_, h, rfl⟩

theorem atPosition_sessionAt (hook : Bool) (n : Nat) (hn : n < streamLimit) :
    AtPosition set1 2 n (sessionAt hook (BitVec.ofNat 64 (n / 64)) (BitVec.ofNat 6 (n % 64))) := by
  have hl : n / 64 < 18446744073709551616 := by
    simp only [streamLimit] at hn
    omega
  constructor
  · rfl
  · rfl
  · rfl
  · exact keyPartKept_setCtr set1 _
  · simp only [sessionAt, ctrOf_setCtr, BitVec.toNat_ofNat]
    exact Nat.mod_eq_of_lt hl
  · simp only [sessionAt, BitVec.toNat_ofNat]
    exact Nat.mod_mod n 64
  · rfl
  · exact (sessionInv_sessionAt hook _ _).block rfl rfl

/-- The first position, and the last from which a byte stays short of the limit. -/
theorem test_witness_StreamFollowsThePosition :
    (∃ s, AtPosition set1 2 0 s ∧ 0 + [(0 : Byte)].length < streamLimit) ∧
      ∃ s, AtPosition set1 2 (streamLimit - 2) s ∧ (streamLimit - 2) + [(0 : Byte)].length < streamLimit :=
  ⟨⟨_, atPosition_sessionAt true 0 (by decide), by decide⟩, ⟨_, atPosition_sessionAt true _ (by decide), by decide⟩⟩

/-- The last position, with exactly the bytes up to the limit and with one more. -/
theorem test_witness_StreamStopsAtTheLimit :
    ∃ s, AtPosition set1 2 (streamLimit - 1) s ∧ streamLimit - 1 < streamLimit ∧
      streamLimit ≤ (streamLimit - 1) + [(0 : Byte)].length ∧
      streamLimit ≤ (streamLimit - 1) + [(0 : Byte), 0].length :=
  ⟨_, atPosition_sessionAt true _ (by decide), by decide, by decide, by decide⟩

theorem test_witness_FirstBlockLaw : ∃ s t : State, exec .init s = .next t ∧ t.RSP_ERR = .ok :=
  test_witness_InitAndResetStartTheStream.1

theorem test_witness_DecryptionIsEncryption :
    ∃ s t : State, SessionKept s t ∧ s.BUSY = false ∧ t.BUSY = false ∧ roundsOk s.RND = true ∧ s ≠ t :=
  ⟨sessionAt true 0 0, { sessionAt true 0 0 with rspValid := true }, ⟨rfl, rfl, rfl, rfl, rfl, rfl⟩, rfl, rfl, rfl,
    fun h => by cases congrArg State.rspValid h⟩

theorem test_witness_ResetReproducesTheStream :
    ∃ s : State, SessionInv s ∧ s.BUSY = false ∧ s.phase = .fresh ∧ ctrOf s.S = 0 :=
  ⟨sessionAt true 0 0, sessionInv_sessionAt true 0 0, rfl, rfl, ctrOf_setCtr set1 0⟩

/-- The longest strings and the empty ones, with nothing else given and with the largest numbers. -/
theorem test_witness_InitTextDrivesThePorts :
    (AsmLine.init (List.replicate 32 0xFF) (List.replicate 8 0xFF) none none none).wf = true ∧
      (AsmLine.init [] [] none none none).wf = true ∧
      (AsmLine.init [] [] (some 0xFFFFFFFF) (some 255) (some 255)).wf = true := by decide

end Sys2Proof.Tests
end

section
/-! The issued command: a word on a free port is one transaction, and a legal word's transaction runs its instruction
(R12, R194, R253). -/

namespace Sys2Proof

/-- Only a legal word has an instruction. -/
theorem Decoded.toOption_eq_some {d : Decoded} {i : Instr} (h : d.toOption = some i) : d = .instr i := by
  cases d with
  | instr j => exact congrArg Decoded.instr (Option.some.inj h)
  | illegal why => cases h

end Sys2Proof

namespace Sys2Proof.Machine

/-- Table bits that have an instruction are the bits of a command word that decodes to it. -/
theorem decode_fetchWord {nbits w : Nat} {i : Instr} (h : decodeTableWord nbits w = some i) :
    decode (fetchWord nbits w) = .instr i := by
  unfold decodeTableWord at h
  split at h
  · exact Decoded.toOption_eq_some h
  · cases h

/-- A legal word in flight completes with the effect of its instruction (R194). -/
theorem completeInFlight_of_decode {s : State} {i : Instr} (h : decode s.latch.cmd = .instr i) :
    s.completeInFlight = exec i s := by
  unfold State.completeInFlight
  rw [h]

/-- The transaction of a legal word is its instruction on the accepted state (R12). -/
theorem transact_of_decode {w : BitVec 32} {i : Instr} (h : decode w = .instr i) (s : State) :
    s.transact w = exec i (s.accept w) :=
  completeInFlight_of_decode h

/-- On a free port the word presented is accepted, and the step is its transaction (R253). -/
theorem present_of_free {s : State} (hb : s.BUSY = false) (w : BitVec 32) (again : State) :
    s.present w again = s.transact w := by
  unfold State.present
  simp [hb]

/-- The step of a host that issues a word presents it. -/
theorem step_of_issue {s : State} {w : BitVec 32} {rest : List HostMove} (hh : s.host = .issue w :: rest) :
    step s = ({ s with host := rest } : State).present w s := by
  unfold step
  rw [hh]
  rfl

/-- A word issued on a free port is one transaction of the step (R12, R253). -/
theorem step_of_issue_of_free {s : State} {w : BitVec 32} {rest : List HostMove} (hh : s.host = .issue w :: rest)
    (hb : s.BUSY = false) : step s = ({ s with host := rest } : State).transact w :=
  (step_of_issue hh).trans (present_of_free (s := { s with host := rest }) hb w s)

/-- The step after `withFetchWord` is the transaction of the table bits' word on the port freed (log entry 3). -/
theorem step_withFetchWord (s : State) (nbits w : Nat) :
    step (s.withFetchWord nbits w) = ({ s with BUSY := false } : State).transact (fetchWord nbits w) :=
  step_of_issue_of_free rfl rfl

/-- Settles O5: a word issued on a free port, by the host or by `withFetchWord`, is a transaction, and a legal word's
transaction runs its instruction. -/
theorem stepRunsTheIssuedCommand : Obligations.StepRunsTheIssuedCommand := by
  unfold Obligations.StepRunsTheIssuedCommand
  constructor
  · intro s w rest i hhost hbusy hdecode
    exact (step_of_issue_of_free hhost hbusy).trans (transact_of_decode hdecode _)
  · intro s nbits w i htable
    exact (step_withFetchWord s nbits w).trans (transact_of_decode (decode_fetchWord htable) _)

end Sys2Proof.Machine
end

section
/-! The session invariants of 10_state.md R32: they hold at reset, and every step keeps them. -/

namespace Sys2Proof.Machine

/-- A session that is not exhausted meets the invariants by a valid round count, the constants and its block (R32). -/
theorem SessionInv.of_live {s : State} (hv : s.VALID = true) (he : s.EXH = false) (hr : roundsOk s.RND = true)
    (hc : HasConstants s.S) (hb : ksgen s.S s.RND = .ok s.KS) : SessionInv s where
  none h := absurd (hv.symm.trans h) (by decide)
  live _ := ⟨hr, hc⟩
  block _ _ := hb
  exhausted _ h := absurd (he.symm.trans h) (by decide)

/-- An exhausted session has no block to account for (R32). -/
theorem SessionInv.of_exhausted {s : State} (hv : s.VALID = true) (he : s.EXH = true) (hr : roundsOk s.RND = true)
    (hc : HasConstants s.S) (hcur : s.CUR = 0) (hctr : ctrOf s.S = 0) : SessionInv s where
  none h := absurd (hv.symm.trans h) (by decide)
  live _ := ⟨hr, hc⟩
  block _ h := absurd (he.symm.trans h) (by decide)
  exhausted _ _ := ⟨hcur, hctr⟩

/-- The counter that overflows wraps to 0 (R185). -/
theorem ctrOf_incrCtr_of_overflows {x : Words16} (h : ctrOverflows x = true) : ctrOf (incrCtr x) = 0 := by
  apply BitVec.eq_of_toNat_eq
  rw [ctrOf_incrCtr_toNat, (ctrOverflows_iff x).mp h]
  rfl

/-- The boundary of a live session, its cursor wrapped to 0, keeps the invariants, whether or not it exhausts the session
(R185). -/
theorem SessionInv.boundary {s : State} (hv : s.VALID = true) (he : s.EXH = false) (hcur : s.CUR = 0)
    (hr : roundsOk s.RND = true) (hc : HasConstants s.S) (d : Byte) : SessionInv (s.boundary d) := by
  have hc' : HasConstants (incrCtr s.S) := (keyPartKept_incrCtr s.S).constants hc
  obtain ⟨hov, e⟩ | ⟨-, e⟩ := boundary_cases d s
  · rw [e]
    exact .of_exhausted hv rfl hr hc' hcur (ctrOf_incrCtr_of_overflows hov)
  · rw [e]
    exact .of_live hv he hr hc' (ksgen_eq_keystream _ hr _)

/-- Every command keeps the session invariants. -/
theorem SessionInv.exec_command {i : Instr} (hi : i.isCommand = true) {s t : State} (hs : SessionInv s)
    (h : exec i s = .next t) : SessionInv t := by
  obtain ⟨e, h', -⟩ | h' | ⟨e, h', -⟩ | ⟨x, R, e, h', -⟩ | ⟨x, R, b, hx, -, hk, h'⟩ | ⟨hv, he, -, d, h'⟩ |
    ⟨hv, he, hc, d, h'⟩ | ⟨hv, c, h'⟩ := exec_command_cases hi s <;> cases h'.symm.trans h
  · exact hs.of_kept ⟨rfl, rfl, rfl, rfl, rfl, rfl⟩
  · exact .of_zeroized (s := s) ⟨rfl, rfl, rfl, rfl, rfl, rfl⟩
  · exact .of_zeroized (s := s) ⟨rfl, rfl, rfl, rfl, rfl, rfl⟩
  · exact .of_zeroized (s := s) ⟨rfl, rfl, rfl, rfl, rfl, rfl⟩
  · exact .of_live rfl rfl (roundsOk_of_ksgen hk) hx hk
  · exact .of_live hv he (hs.live hv).1 (hs.live hv).2 (hs.block hv he)
  · exact .boundary (s := { s with CUR := s.CUR + 1 }) hv he hc (hs.live hv).1 (hs.live hv).2 d
  · obtain ⟨hr, hcon⟩ := hs.live hv
    exact .of_live hv rfl hr ((keyPartKept_setCtr s.S c).constants hcon) (ksgen_eq_keystream _ hr _)

/-- A PORT operation keeps the session registers (R84). -/
theorem exec_port_sessionKept {i : Instr} (hi : i.isPort = true) {s t : State} (h : exec i s = .next t) :
    SessionKept s t := by
  obtain ⟨b, n, h'⟩ := exec_port_frame hi s
  cases h'.symm.trans h
  exact ⟨rfl, rfl, rfl, rfl, rfl, rfl⟩

/-- An operation that is no command is a PORT operation (R84). -/
theorem isPort_of_not_isCommand {i : Instr} (hi : ¬ i.isCommand = true) : i.isPort = true := by
  simp [Instr.isPort, hi]

/-- Every operation keeps the session invariants. -/
theorem SessionInv.exec {i : Instr} {s t : State} (hs : SessionInv s) (h : exec i s = .next t) : SessionInv t := by
  by_cases hi : i.isCommand = true
  · exact hs.exec_command hi h
  · exact hs.of_kept (exec_port_sessionKept (isPort_of_not_isCommand hi) h)

theorem endPe_sessionKept (s : State) : SessionKept s s.endPe :=
  ⟨s.endPe_S, s.endPe_KS, s.endPe_CUR, s.endPe_RND, s.endPe_VALID, s.endPe_EXH⟩

theorem endKg_sessionKept (s : State) : SessionKept s s.endKg :=
  ⟨s.endKg_S, s.endKg_KS, s.endKg_CUR, s.endKg_RND, s.endKg_VALID, s.endKg_EXH⟩

/-- Settles O35: the operations keep the invariants, and the edges and the host's inputs the session registers. -/
theorem sessionInvariantKept : Obligations.SessionInvariantKept := by
  unfold Obligations.SessionInvariantKept
  intro s t hs h
  refine step_preserves (P := SessionInv) ?exec ?illegal ?accept ?drop ?host ?pins ?peStart ?kgStart ?endPe ?endKg ?rst
    hs h
  case exec => exact fun i s t hs h => hs.exec h
  case endPe => exact fun s hs => hs.of_kept (endPe_sessionKept s)
  case endKg => exact fun s hs => hs.of_kept (endKg_sessionKept s)
  case rst => exact fun s _ => .of_zeroized (s := s) ⟨rfl, rfl, rfl, rfl, rfl, rfl⟩
  all_goals
    intros
    apply SessionInv.of_kept (by assumption)
    exact ⟨rfl, rfl, rfl, rfl, rfl, rfl⟩

/-- Settles O34: the session registers after reset are the zeroized ones. -/
theorem sessionInvariantAtReset : Obligations.SessionInvariantAtReset := by
  unfold Obligations.SessionInvariantAtReset
  intro c
  exact .of_zeroized (s := State.resetWith c) ⟨rfl, rfl, rfl, rfl, rfl, rfl⟩

end Sys2Proof.Machine
end

section
/-! The invariants of the response registers and of the inner modules (R30, R63, R80, R228): they hold at reset, and every
step keeps them. -/

namespace Sys2Proof.Machine

/-! ### The inner modules drive no code 4 -/

/-- An error that is OK or InvalidRoundCount is not code 4 (R228, R239). -/
theorem ne_malformedState_of_ok_or_rounds {e : ErrKind} (h : e = .ok ∨ e = .invalidRoundCount) :
    e ≠ .malformedState := by
  obtain rfl | rfl := h <;> decide

/-- The integrated generator and its engine are at rest, and neither drives code 4 (R228, log entry 11). -/
structure Generator.Resting (g : Generator) : Prop where
  rest : g.busy = false ∧ g.done = false ∧ g.pe.busy = false ∧ g.pe.done = false
  err : g.err ≠ .malformedState
  peErr : g.pe.err ≠ .malformedState

theorem Generator.Resting.zero : Generator.zero.Resting := ⟨⟨rfl, rfl, rfl, rfl⟩, by decide, by decide⟩

/-- A whole operation inside a command leaves the generator resting (R261). -/
theorem Generator.Resting.ran (x : Words16) (R : Word) (d : Nat) (g : Generator) : (g.ran x R d).Resting where
  rest := g.ran_rest x R d
  err := ne_malformedState_of_ok_or_rounds (g.ran_err x R d).1
  peErr := ne_malformedState_of_ok_or_rounds (g.ran_err x R d).2

/-- No error output of the modules at their own ports is code 4 (R228). -/
structure Bench.NoCode4 (b : Bench) : Prop where
  pe : b.pe.err ≠ .malformedState
  kg : b.kg.err ≠ .malformedState
  kgPe : b.kg.pe.err ≠ .malformedState

theorem Bench.NoCode4.zero : Bench.zero.NoCode4 := ⟨by decide, by decide, by decide⟩

theorem Engine.finish_err_ne_malformedState (d : Nat) {e : Engine} (h : e.err ≠ .malformedState) :
    (e.finish d).err ≠ .malformedState := by
  obtain h' | h' := e.finish_err d
  · rwa [h']
  · exact ne_malformedState_of_ok_or_rounds h'

theorem Generator.finish_err_ne_malformedState (d : Nat) {g : Generator} (h : g.err ≠ .malformedState) :
    (g.finish d).err ≠ .malformedState := by
  obtain h' | h' := g.finish_err d
  · rwa [h']
  · exact ne_malformedState_of_ok_or_rounds h'

theorem Generator.finish_pe_err_ne_malformedState (d : Nat) {g : Generator} (h : g.pe.err ≠ .malformedState) :
    (g.finish d).pe.err ≠ .malformedState := by
  obtain h' | h' := g.finish_pe d <;> rw [h']
  · exact h
  · exact Engine.finish_err_ne_malformedState d h

theorem Bench.NoCode4.startPe {b : Bench} (h : b.NoCode4) (x : Words16) (R : Word) (d : Nat) :
    NoCode4 { b with pe := b.pe.start x R d } :=
  ⟨by simpa using h.pe, h.kg, h.kgPe⟩

theorem Bench.NoCode4.startKg {b : Bench} (h : b.NoCode4) (x : Words16) (R : Word) (d : Nat) :
    NoCode4 { b with kg := b.kg.start x R d } :=
  ⟨h.pe, by simpa using h.kg, by simpa using h.kgPe⟩

theorem Bench.NoCode4.finishPe {b : Bench} (h : b.NoCode4) (d : Nat) : NoCode4 { b with pe := b.pe.finish d } :=
  ⟨Engine.finish_err_ne_malformedState d h.pe, h.kg, h.kgPe⟩

theorem Bench.NoCode4.finishKg {b : Bench} (h : b.NoCode4) (d : Nat) : NoCode4 { b with kg := b.kg.finish d } :=
  ⟨h.pe, Generator.finish_err_ne_malformedState d h.kg, Generator.finish_pe_err_ne_malformedState d h.kgPe⟩

/-! ### The invariants at a completion -/

theorem PortInv.resting {s : State} (h : PortInv s) : s.kg.Resting := by
  obtain ⟨-, hkg, hkgPe, -⟩ := h.code4
  exact ⟨h.rest, hkg, hkgPe⟩

theorem PortInv.noCode4 {s : State} (h : PortInv s) : s.bench.NoCode4 := by
  obtain ⟨-, -, -, hpe, hkg, hkgPe⟩ := h.code4
  exact ⟨hpe, hkg, hkgPe⟩

/-- A completion writes the response as the invariants ask it; the rest they ask of the inner modules (R180). -/
theorem PortInv.complete {s : State} {d : Byte} {dv : Bool} {e : ErrKind} (hd : dv = false → d = 0)
    (he : e ≠ .malformedState) (hg : s.kg.Resting) (hz : s.VALID = false → s.kg = Generator.zero)
    (hb : s.bench.NoCode4) : PortInv (s.complete d dv e) where
  err := rfl
  data := hd
  latch _ := rfl
  pulse _ := rfl
  rest := hg.rest
  residue := hz
  code4 := ⟨he, hg.err, hg.peErr, hb.pe, hb.kg, hb.kgPe⟩

/-- With a session the generator need only rest. -/
theorem PortInv.complete_of_session {s : State} {d : Byte} {dv : Bool} {e : ErrKind} (hd : dv = false → d = 0)
    (he : e ≠ .malformedState) (hg : s.kg.Resting) (hv : s.VALID = true) (hb : s.bench.NoCode4) :
    PortInv (s.complete d dv e) :=
  .complete hd he hg (fun h => absurd (hv.symm.trans h) (by decide)) hb

/-- A completion without an output byte that leaves the generator as it was. -/
theorem PortInv.raise {s : State} (h : PortInv s) {e : ErrKind} (he : e ≠ .malformedState) : PortInv (s.raise e) :=
  .complete (fun _ => rfl) he h.resting h.residue h.noCode4

/-- A completion without an output byte after ZEROIZE (R188). -/
theorem PortInv.zeroize_raise {s : State} (hb : s.bench.NoCode4) {e : ErrKind} (he : e ≠ .malformedState) :
    PortInv (s.zeroize.raise e) :=
  .complete (fun _ => rfl) he .zero (fun _ => rfl) hb

/-- The byte of a block boundary is valid, and its error OK or NonceLimitExceeded (R185). -/
theorem PortInv.boundary {s : State} (hv : s.VALID = true) (hg : s.kg.Resting) (hb : s.bench.NoCode4) (d : Byte) :
    PortInv (s.boundary d) := by
  obtain ⟨-, e⟩ | ⟨-, e⟩ := boundary_cases d s <;> rw [e]
  · exact .complete_of_session (fun h => nomatch h) (by decide) hg hv hb
  · exact .complete_of_session (fun h => nomatch h) (by decide) (.ran _ _ _ _) hv hb

/-- Every command keeps the invariants. -/
theorem PortInv.exec_command {i : Instr} (hi : i.isCommand = true) {s t : State} (hs : PortInv s)
    (h : exec i s = .next t) : PortInv t := by
  obtain ⟨e, h', he⟩ | h' | ⟨e, h', he⟩ | ⟨x, R, e, h', he⟩ | ⟨x, R, b, -, -, -, h'⟩ | ⟨hv, -, -, d, h'⟩ |
    ⟨hv, -, -, d, h'⟩ | ⟨hv, c, h'⟩ := exec_command_cases hi s <;> cases h'.symm.trans h
  · exact hs.raise he
  · exact .zeroize_raise hs.noCode4 (by decide)
  · exact .zeroize_raise hs.noCode4 he
  · exact .zeroize_raise (s := s.useGenerator x R) hs.noCode4 he
  · exact .complete_of_session (fun _ => rfl) (by decide) (.ran _ _ _ _) rfl hs.noCode4
  · exact .complete_of_session (fun h => nomatch h) (by decide) hs.resting hv hs.noCode4
  · exact .boundary (s := { s with CUR := s.CUR + 1 }) hv hs.resting hs.noCode4 d
  · exact .complete_of_session (fun _ => rfl) (by decide) (.ran _ _ _ _) hv hs.noCode4

/-! ### The invariants at the other events -/

/-- They ask nothing of the host's side and of the count of free values. -/
theorem PortInv.with_host {s : State} (h : PortInv s) (p : Operands) (l : List HostMove) (n : Nat) :
    PortInv { s with pins := p, host := l, draws := n } :=
  ⟨h.err, h.data, h.latch, h.pulse, h.rest, h.residue, h.code4⟩

/-- Of the modules at their own ports they ask only that none drives code 4. -/
theorem PortInv.with_bench {s : State} (h : PortInv s) {b : Bench} (hb : b.NoCode4) (n : Nat) :
    PortInv { s with bench := b, draws := n } :=
  ⟨h.err, h.data, h.latch, h.pulse, h.rest, h.residue,
    h.code4.1, h.resting.err, h.resting.peErr, hb.pe, hb.kg, hb.kgPe⟩

theorem PortInv.dropPulses {s : State} (h : PortInv s) : PortInv s.dropPulses :=
  ⟨h.err, h.data, h.latch, (fun hp => nomatch hp), h.rest, h.residue, h.code4⟩

/-- At acceptance `BUSY` rises, so the copy may be made (R256). -/
theorem PortInv.accept {s : State} (h : PortInv s) (w : BitVec 32) : PortInv (s.accept w) :=
  ⟨h.err, h.data, (fun hb => nomatch hb), (fun hp => nomatch hp), h.rest, h.residue, h.code4⟩

theorem PortInv.endPe {s : State} (h : PortInv s) : PortInv s.endPe := by
  unfold State.endPe
  split
  · exact h.with_bench (h.noCode4.finishPe _) _
  · exact h

theorem PortInv.endKg {s : State} (h : PortInv s) : PortInv s.endKg := by
  unfold State.endKg
  split
  · exact h.with_bench (h.noCode4.finishKg _) _
  · exact h

/-- A PORT operation keeps the invariants: the combinational ones touch no error output, the others end an operation of
their module (R84). -/
theorem PortInv.exec_port {i : Instr} (hi : i.isPort = true) {s t : State} (hs : PortInv s)
    (h : exec i s = .next t) : PortInv t := by
  have hb := hs.noCode4
  cases i with
  | nop | init | pbyte | reset | wipe | setctr => cases hi
  | mix | qround | colround | rowround | dround | setup =>
    cases h
    refine hs.with_bench ?_ s.draws
    exact ⟨hb.pe, hb.kg, hb.kgPe⟩
  | permute x R =>
    obtain ⟨-, h'⟩ | ⟨-, h'⟩ := execPermute_cases x R s <;> cases h'.symm.trans h
    · exact hs
    · exact hs.with_bench ((hb.startPe x R _).finishPe _) _
  | ksgen x R =>
    obtain ⟨-, h'⟩ | ⟨-, h'⟩ := execKsgen_cases x R s <;> cases h'.symm.trans h
    · exact hs
    · exact hs.with_bench ((hb.startKg x R _).finishKg _) _

/-- Every operation keeps the invariants. -/
theorem PortInv.exec {i : Instr} {s t : State} (hs : PortInv s) (h : exec i s = .next t) : PortInv t := by
  by_cases hi : i.isCommand = true
  · exact hs.exec_command hi h
  · exact hs.exec_port (isPort_of_not_isCommand hi) h

/-! ### At reset, and at every step -/

/-- Settles O36: after reset every register is zero, and every error output OK. -/
theorem portInvariantAtReset : Obligations.PortInvariantAtReset := by
  unfold Obligations.PortInvariantAtReset
  intro c
  have hg := Generator.Resting.zero
  have hb := Bench.NoCode4.zero
  exact {
    err := rfl
    data := fun _ => rfl
    latch := fun _ => rfl
    pulse := fun _ => rfl
    rest := hg.rest
    residue := fun _ => rfl
    code4 := ⟨(fun h => nomatch h), hg.err, hg.peErr, hb.pe, hb.kg, hb.kgPe⟩ }

/-- Settles O37: the operations, the edges and the host's inputs each keep the invariants. -/
theorem portInvariantKept : Obligations.PortInvariantKept := by
  unfold Obligations.PortInvariantKept
  intro s t hs h
  refine step_preserves (P := PortInv) ?exec ?illegal ?accept ?drop ?host ?pins ?peStart ?kgStart ?endPe ?endKg ?rst
    hs h
  case exec => exact fun i s t hs h => hs.exec h
  case illegal => exact fun s hs => hs.raise (by decide)
  case accept => exact fun s w hs => hs.accept w
  case drop => exact fun s hs => hs.dropPulses
  case host => exact fun s l hs => hs.with_host s.pins l s.draws
  case pins => exact fun s p hs => hs.with_host p s.host s.draws
  case peStart => exact fun s x R hs => hs.with_bench (hs.noCode4.startPe x R _) _
  case kgStart => exact fun s x R hs => hs.with_bench (hs.noCode4.startKg x R _) _
  case endPe => exact fun s hs => hs.endPe
  case endKg => exact fun s hs => hs.endKg
  case rst => exact fun s _ => (portInvariantAtReset s.cfg).with_host s.pins s.host s.draws

end Sys2Proof.Machine
end

section
/-! Who writes the session state (10_state.md R22): the key part and the counter words. -/

namespace Sys2Proof.Machine

/-- PBYTE leaves the session state, or steps its counter at a block boundary and exhausts the session when that overflows
(R184 to R186). -/
theorem execPbyte_S {din : Byte} {s t : State} (h : execPbyte din s = .next t) :
    t.S = s.S ∨ (t.S = incrCtr s.S ∧ (ctrOverflows s.S = true → t.EXH = true)) := by
  obtain ⟨-, h'⟩ | ⟨-, -, h'⟩ | ⟨-, -, -, h'⟩ | ⟨-, -, -, h'⟩ := execPbyte_cases din s <;> cases h'.symm.trans h
  · exact .inl rfl
  · exact .inl rfl
  · exact .inl rfl
  · obtain ⟨-, e⟩ | ⟨hno, e⟩ := boundary_cases (din ^^^ s.KS[s.CUR.toNat]) { s with CUR := s.CUR + 1 } <;> rw [e]
    · exact .inr ⟨rfl, fun _ => rfl⟩
    · exact .inr ⟨rfl, fun hov => absurd (hno.symm.trans hov) (by decide)⟩

/-- RESET writes no word of the key part (R187). -/
theorem execReset_keyPartKept {s t : State} (h : execReset s = .next t) : KeyPartKept s.S t.S := by
  obtain ⟨-, h'⟩ | ⟨-, h'⟩ := execReset_cases s <;> cases h'.symm.trans h
  · exact .refl s.S
  · exact keyPartKept_setCtr s.S 0

/-- SETCTR writes no word of the key part (R189). -/
theorem execSetctr_keyPartKept {s t : State} (h : execSetctr s = .next t) : KeyPartKept s.S t.S := by
  obtain ⟨-, h'⟩ | ⟨-, -, h'⟩ | ⟨-, -, h'⟩ := execSetctr_cases s <;> cases h'.symm.trans h
  · exact .refl s.S
  · exact .refl s.S
  · exact keyPartKept_setCtr s.S _

/-- The operations that keep all of `S`: NOP and the PORT operations (R22). -/
theorem exec_S_of_not_writer {i : Instr} (hinit : i ≠ .init) (hwipe : i ≠ .wipe) (hreset : i ≠ .reset)
    (hsetctr : i ≠ .setctr) (hpbyte : ∀ din, i ≠ .pbyte din) {s t : State} (h : exec i s = .next t) : t.S = s.S := by
  cases i with
  | init => exact absurd rfl hinit
  | wipe => exact absurd rfl hwipe
  | reset => exact absurd rfl hreset
  | setctr => exact absurd rfl hsetctr
  | pbyte din => exact absurd rfl (hpbyte din)
  | nop =>
    cases h
    rfl
  | mix | qround | colround | rowround | dround | permute | setup | ksgen => exact (exec_port_sessionKept rfl h).S

/-- Every operation but INIT and WIPE keeps the key part (R22). -/
theorem exec_keyPartKept {i : Instr} (hinit : i ≠ .init) (hwipe : i ≠ .wipe) {s t : State} (h : exec i s = .next t) :
    KeyPartKept s.S t.S := by
  cases i with
  | init => exact absurd rfl hinit
  | wipe => exact absurd rfl hwipe
  | reset => exact execReset_keyPartKept h
  | setctr => exact execSetctr_keyPartKept h
  | pbyte din =>
    obtain e | ⟨e, -⟩ := execPbyte_S h <;> rw [e]
    · exact .refl s.S
    · exact keyPartKept_incrCtr s.S
  | nop =>
    cases h
    exact .refl s.S
  | mix | qround | colround | rowround | dround | permute | setup | ksgen =>
    rw [(exec_port_sessionKept rfl h).S]
    exact .refl s.S

/-- Settles O31: of the operations but INIT and WIPE only PBYTE, RESET and SETCTR write `S`, and they write its counter
words alone. -/
theorem onlyInitAndWipeWriteTheKeyPart : Obligations.OnlyInitAndWipeWriteTheKeyPart := by
  unfold Obligations.OnlyInitAndWipeWriteTheKeyPart
  intro s t i h
  constructor
  · intro hinit hwipe
    exact exec_keyPartKept hinit hwipe h
  · intro hinit hwipe hreset hsetctr hpbyte
    exact exec_S_of_not_writer hinit hwipe hreset hsetctr hpbyte h

/-- The increment lowers the counter only when it overflows (R185). -/
theorem ctrOf_le_ctrOf_incrCtr {x : Words16} (h : ctrOverflows x = false) :
    (ctrOf x).toNat ≤ (ctrOf (incrCtr x)).toNat := by
  have hne : ctrOf x ≠ 0xFFFFFFFFFFFFFFFF := fun e => by simp [(ctrOverflows_iff x).mpr e] at h
  have hne' : (ctrOf x).toNat ≠ 18446744073709551615 := fun e => hne (BitVec.eq_of_toNat_eq e)
  have hlt := (ctrOf x).isLt
  rw [ctrOf_incrCtr_toNat]
  omega

/-- Settles O32: PBYTE alone steps the counter, and its step lowers it only at exhaustion. -/
theorem counterNeverFalls : Obligations.CounterNeverFalls := by
  unfold Obligations.CounterNeverFalls
  intro s t i hinit hreset hsetctr hwipe h
  by_cases hpbyte : ∃ din, i = .pbyte din
  · obtain ⟨din, rfl⟩ := hpbyte
    obtain e | ⟨e, hexh⟩ := execPbyte_S h
    · rw [e]
      exact .inl le_rfl
    · rw [e]
      cases hov : ctrOverflows s.S
      · exact .inl (ctrOf_le_ctrOf_incrCtr hov)
      · exact .inr ⟨hexh hov, (ctrOverflows_iff s.S).mp hov⟩
  · rw [exec_S_of_not_writer hinit hwipe hreset hsetctr (not_exists.mp hpbyte) h]
    exact .inl le_rfl

end Sys2Proof.Machine
end

section
/-! What the host sees of a command (10_state.md R33): it is a function of what the host saw before, the operands and the
keystream byte at the cursor. -/

namespace Sys2Proof.Machine

/-! ### The commands' outcomes, case by case -/

theorem execInit_of_setup_err {s : State} {e : ErrKind}
    (h : setup s.latch.ops.keyIn s.latch.ops.keyLen s.latch.ops.nonceIn s.latch.ops.nonceLen = .err e) :
    execInit s = .next (s.zeroize.raise e) := by
  simp [execInit, h]

theorem execInit_of_ksgen_err {s : State} {x : Words16} {e : ErrKind}
    (h : setup s.latch.ops.keyIn s.latch.ops.keyLen s.latch.ops.nonceIn s.latch.ops.nonceLen = .ok x)
    (hk : ksgen x s.latch.ops.roundsIn = .err e) :
    execInit s = .next ((s.useGenerator x s.latch.ops.roundsIn).zeroize.raise e) := by
  simp [execInit, State.initWith, h, hk]

theorem execInit_of_ksgen_ok {s : State} {x : Words16} {b : Block64}
    (h : setup s.latch.ops.keyIn s.latch.ops.keyLen s.latch.ops.nonceIn s.latch.ops.nonceLen = .ok x)
    (hk : ksgen x s.latch.ops.roundsIn = .ok b) :
    execInit s = .next ({ s.useGenerator x s.latch.ops.roundsIn with
      S := x, KS := b, RND := s.latch.ops.roundsIn, CUR := 0, EXH := false, VALID := true } : State).finishOk := by
  simp [execInit, State.initWith, h, hk]

theorem execPbyte_of_no_session (din : Byte) {s : State} (hv : s.VALID = false) :
    execPbyte din s = .next (s.raise .noSession) := by
  simp [execPbyte, hv]

theorem execPbyte_of_exhausted (din : Byte) {s : State} (hv : s.VALID = true) (he : s.EXH = true) :
    execPbyte din s = .next (s.raise .nonceLimitExceeded) := by
  simp [execPbyte, hv, he]

theorem execPbyte_of_inside (din : Byte) {s : State} (hv : s.VALID = true) (he : s.EXH = false) (hc : s.CUR + 1 ≠ 0) :
    execPbyte din s = .next (({ s with CUR := s.CUR + 1 } : State).complete (din ^^^ s.KS[s.CUR.toNat]) true .ok) := by
  simp_all [execPbyte]

theorem execPbyte_of_boundary (din : Byte) {s : State} (hv : s.VALID = true) (he : s.EXH = false) (hc : s.CUR + 1 = 0) :
    execPbyte din s = .next (({ s with CUR := s.CUR + 1 } : State).boundary (din ^^^ s.KS[s.CUR.toNat])) := by
  simp_all [execPbyte]

theorem execReset_of_no_session {s : State} (hv : s.VALID = false) : execReset s = .next (s.raise .noSession) := by
  simp [execReset, hv]

theorem execReset_of_session {s : State} (hv : s.VALID = true) : execReset s = .next (s.restartAt 0).finishOk := by
  simp [execReset, hv]

theorem execSetctr_of_no_hook {s : State} (hh : s.cfg.hasTestHook = false) :
    execSetctr s = .next (s.raise .illegalCommand) := by
  simp [execSetctr, hh]

theorem execSetctr_of_no_session {s : State} (hh : s.cfg.hasTestHook = true) (hv : s.VALID = false) :
    execSetctr s = .next (s.raise .noSession) := by
  simp [execSetctr, hh, hv]

theorem execSetctr_of_session {s : State} (hh : s.cfg.hasTestHook = true) (hv : s.VALID = true) :
    execSetctr s = .next (s.restartAt s.latch.ops.ctrIn).finishOk := by
  simp [execSetctr, hh, hv]

theorem State.boundary_of_overflows (dout : Byte) {s : State} (h : ctrOverflows s.S = true) :
    s.boundary dout = ({ s with S := incrCtr s.S, EXH := true } : State).complete dout true .nonceLimitExceeded := by
  simp [State.boundary, h]

theorem State.boundary_of_not_overflows (dout : Byte) {s : State} (h : ctrOverflows s.S = false) :
    s.boundary dout = ({ s with S := incrCtr s.S } : State).regenerate.complete dout true .ok := by
  simp [State.boundary, h]

/-! ### The fields of the status word (R78) -/

theorem status_VALID (s : State) : s.status.getLsbD 1 = s.VALID := by
  unfold State.status
  rw [BitVec.getLsbD_append, BitVec.getLsbD_append]
  simp [bit]

theorem status_EXH (s : State) : s.status.getLsbD 2 = s.EXH := by
  unfold State.status
  rw [BitVec.getLsbD_append, BitVec.getLsbD_append, BitVec.getLsbD_append]
  simp [bit]

theorem status_hasTestHook (s : State) : s.status.getLsbD 3 = s.cfg.hasTestHook := by
  unfold State.status
  rw [BitVec.getLsbD_append, BitVec.getLsbD_append, BitVec.getLsbD_append, BitVec.getLsbD_append]
  simp [bit]

theorem status_CUR (s : State) : s.status.extractLsb' 4 6 = s.CUR := by
  apply BitVec.eq_of_getLsbD_eq
  intro k hk
  unfold State.status
  rw [BitVec.getLsbD_extractLsb', BitVec.getLsbD_append, BitVec.getLsbD_append, BitVec.getLsbD_append,
    BitVec.getLsbD_append, BitVec.getLsbD_append]
  simp [hk]

/-! ### States the host cannot tell apart -/

/-- The registers by which the host's view of the core can influence what a command answers: those of the status word but
the last command's, and the counter (R78, R79). -/
structure SameView (s t : State) : Prop where
  VALID : t.VALID = s.VALID
  EXH : t.EXH = s.EXH
  CUR : t.CUR = s.CUR
  hook : t.cfg.hasTestHook = s.cfg.hasTestHook
  ctr : ctrOf t.S = ctrOf s.S

/-- The host sees the same response, status word and counter of both states. -/
structure SeenAlike (s t : State) : Prop where
  response : s.response = t.response
  status : s.status = t.status
  ctrOut : s.ctrOut = t.ctrOut

/-- Both outcomes are next states, and the host sees the same of them. -/
def AnswersAlike (o p : Host.Outcome State Fault Refusal) : Prop :=
  ∃ s t, o = .next s ∧ p = .next t ∧ SeenAlike s t

/-- The status word and the counter readout show every register of the view. -/
theorem SameView.of_seen {s t : State} (hst : s.status = t.status) (hctr : s.ctrOut = t.ctrOut) : SameView s t where
  VALID := by rw [← status_VALID, ← status_VALID, hst]
  EXH := by rw [← status_EXH, ← status_EXH, hst]
  CUR := by rw [← status_CUR, ← status_CUR, hst]
  hook := by rw [← status_hasTestHook, ← status_hasTestHook, hst]
  ctr := hctr.symm

section
variable {s t : State} (h : SameView s t)
include h

/-- Of two completions with one response the host sees the same. -/
theorem SameView.complete (d : Byte) (dv : Bool) (e : ErrKind) :
    SeenAlike (s.complete d dv e) (t.complete d dv e) where
  response := rfl
  status := by simp [State.status, h.VALID, h.EXH, h.CUR, h.hook]
  ctrOut := h.ctr.symm

theorem SameView.raise (e : ErrKind) : SeenAlike (s.raise e) (t.raise e) := h.complete _ _ _

theorem SameView.finishOk : SeenAlike s.finishOk t.finishOk := h.complete _ _ _

/-- What ZEROIZE leaves does not depend on what was there (R188). -/
theorem SameView.zeroize : SameView s.zeroize t.zeroize :=
  ⟨rfl, rfl, rfl, h.hook, rfl⟩

/-- A stream restarted at one counter looks the same (R187, R189). -/
theorem SameView.restartAt (c : BitVec 64) : SameView (s.restartAt c) (t.restartAt c) :=
  ⟨h.VALID, rfl, rfl, h.hook, by simp⟩

theorem SameView.ctrOverflows_eq : ctrOverflows t.S = ctrOverflows s.S := by
  rw [Bool.eq_iff_iff, ctrOverflows_iff, ctrOverflows_iff, h.ctr]

theorem SameView.ctrOf_incrCtr_eq : ctrOf (incrCtr t.S) = ctrOf (incrCtr s.S) := by
  apply BitVec.eq_of_toNat_eq
  rw [ctrOf_incrCtr_toNat, ctrOf_incrCtr_toNat, h.ctr]

/-- Of two block boundaries with one output byte the host sees the same: the new block does not show (R185). -/
theorem SameView.boundary (d : Byte) : SeenAlike (s.boundary d) (t.boundary d) := by
  cases hov : ctrOverflows s.S
  · rw [State.boundary_of_not_overflows d hov, State.boundary_of_not_overflows d (h.ctrOverflows_eq.trans hov)]
    apply SameView.complete
    exact ⟨h.VALID, h.EXH, h.CUR, h.hook, h.ctrOf_incrCtr_eq⟩
  · rw [State.boundary_of_overflows d hov, State.boundary_of_overflows d (h.ctrOverflows_eq.trans hov)]
    apply SameView.complete
    exact ⟨h.VALID, rfl, h.CUR, h.hook, h.ctrOf_incrCtr_eq⟩

/-! ### Each command -/

/-- INIT answers by the operands alone (R182, R183). -/
theorem execInit_answersAlike (hops : s.latch.ops = t.latch.ops) : AnswersAlike (execInit s) (execInit t) := by
  obtain ⟨e, hs, h'⟩ | ⟨x, e, hs, hk, h'⟩ | ⟨x, b, hs, hk, h'⟩ := execInit_cases s <;> rw [hops] at hs
  · exact ⟨_, _, h', execInit_of_setup_err hs, h.zeroize.raise _⟩
  · rw [hops] at hk
    refine ⟨_, _, h', execInit_of_ksgen_err hs hk, SameView.raise ?_ _⟩
    exact ⟨rfl, rfl, rfl, h.hook, rfl⟩
  · rw [hops] at hk
    refine ⟨_, _, h', execInit_of_ksgen_ok hs hk, SameView.finishOk ?_⟩
    exact ⟨rfl, rfl, rfl, h.hook, rfl⟩

/-- PBYTE answers by the view and the keystream byte at the cursor (R184 to R186). -/
theorem execPbyte_answersAlike (din : Byte) (hks : s.KS[s.CUR.toNat] = t.KS[t.CUR.toNat]) :
    AnswersAlike (execPbyte din s) (execPbyte din t) := by
  have hnext : SameView { s with CUR := s.CUR + 1 } { t with CUR := t.CUR + 1 } :=
    ⟨h.VALID, h.EXH, congrArg (· + 1) h.CUR, h.hook, h.ctr⟩
  obtain ⟨hv, h'⟩ | ⟨hv, he, h'⟩ | ⟨hv, he, hc, h'⟩ | ⟨hv, he, hc, h'⟩ := execPbyte_cases din s <;>
    rw [← h.VALID] at hv
  · exact ⟨_, _, h', execPbyte_of_no_session din hv, h.raise _⟩
  · exact ⟨_, _, h', execPbyte_of_exhausted din hv (h.EXH.trans he), h.raise _⟩
  · rw [hks] at h'
    exact ⟨_, _, h', execPbyte_of_inside din hv (h.EXH.trans he) (h.CUR ▸ hc), hnext.complete _ _ _⟩
  · rw [hks] at h'
    exact ⟨_, _, h', execPbyte_of_boundary din hv (h.EXH.trans he) (h.CUR ▸ hc), hnext.boundary _⟩

/-- RESET answers by the view. -/
theorem execReset_answersAlike : AnswersAlike (execReset s) (execReset t) := by
  obtain ⟨hv, h'⟩ | ⟨hv, h'⟩ := execReset_cases s <;> rw [← h.VALID] at hv
  · exact ⟨_, _, h', execReset_of_no_session hv, h.raise _⟩
  · exact ⟨_, _, h', execReset_of_session hv, (h.restartAt 0).finishOk⟩

/-- SETCTR answers by the view and its operand (R189). -/
theorem execSetctr_answersAlike (hops : s.latch.ops = t.latch.ops) : AnswersAlike (execSetctr s) (execSetctr t) := by
  obtain ⟨hh, h'⟩ | ⟨hh, hv, h'⟩ | ⟨hh, hv, h'⟩ := execSetctr_cases s <;> rw [← h.hook] at hh
  · exact ⟨_, _, h', execSetctr_of_no_hook hh, h.raise _⟩
  · exact ⟨_, _, h', execSetctr_of_no_session hh (h.VALID.trans hv), h.raise _⟩
  · rw [hops] at h'
    exact ⟨_, _, h', execSetctr_of_session hh (h.VALID.trans hv), (h.restartAt _).finishOk⟩

/-- Every command answers by the view, the operands and the keystream byte at the cursor (R33). -/
theorem exec_command_answersAlike {i : Instr} (hi : i.isCommand = true) (hops : s.latch.ops = t.latch.ops)
    (hks : s.KS[s.CUR.toNat] = t.KS[t.CUR.toNat]) : AnswersAlike (exec i s) (exec i t) := by
  cases i with
  | nop => exact ⟨_, _, rfl, rfl, h.finishOk⟩
  | init => exact execInit_answersAlike h hops
  | pbyte din => exact execPbyte_answersAlike h din hks
  | reset => exact execReset_answersAlike h
  | wipe => exact ⟨_, _, rfl, rfl, h.zeroize.finishOk⟩
  | setctr => exact execSetctr_answersAlike h hops
  | mix | qround | colround | rowround | dround | permute | setup | ksgen => cases hi

end

/-- Settles O33: the status word and the counter readout show every register, but the keystream byte at the cursor, that
any command's answer depends on. -/
theorem hostSeesNoKeyMaterial : Obligations.HostSeesNoKeyMaterial := by
  unfold Obligations.HostSeesNoKeyMaterial
  intro s t s' t' i hi hst hctr hops hks hs ht
  obtain ⟨u, v, hu, hv, hseen⟩ := exec_command_answersAlike (.of_seen hst hctr) hi hops hks
  cases hu.symm.trans hs
  cases hv.symm.trans ht
  exact ⟨hseen.response, hseen.status, hseen.ctrOut⟩

end Sys2Proof.Machine
end

section
/-! The hardware reset as a step (70 R250). -/

namespace Sys2Proof.Machine

theorem getElem_zeroWords (k : Fin 16) : zeroWords[k] = 0 := by simp [zeroWords]

theorem getElem_zeroBlock (j : Fin 64) : zeroBlock[j] = 0 := by simp [zeroBlock]

/-- The step of a host that holds `rst` at 1 for an edge is the hardware reset. -/
theorem step_of_rst {s : State} {rest : List HostMove} (hh : s.host = .rst :: rest) :
    step s = .next ({ s with host := rest } : State).hardReset := by
  unfold step
  rw [hh]
  rfl

/-- Settles O14: the step is the hardware reset, which writes every register from the reset state. -/
theorem hardwareResetTakesResetValues : Obligations.HardwareResetTakesResetValues := by
  unfold Obligations.HardwareResetTakesResetValues
  intro s rest hh
  refine ⟨_, step_of_rst hh, getElem_zeroWords, getElem_zeroBlock, ?_⟩
  simp [State.cmdReady]

end Sys2Proof.Machine
end

section
/-! Commands done twice (20_memory.md R56): NOP, WIPE and RESET of a live session leave the second time what they left
the first time. -/

namespace Sys2Proof.Machine

/-- With a valid round count the block is the same whichever free value is next. -/
theorem keystream_draw_irrel (x : Words16) {R : Word} (h : roundsOk R = true) (d d' : Nat) :
    keystream x R d = keystream x R d' :=
  keystream_eq_of_ksgen (ksgen_eq_keystream x h d') d

/-- Writing the counter words again with the same counter changes nothing. -/
theorem setCtr_setCtr_same (x : Words16) (c : BitVec 64) : setCtr (setCtr x c) c = setCtr x c :=
  setCtr_setCtr_of_key (keyPartKept_setCtr x c) c

/-- A completion writes no session register (R180). -/
theorem finishOk_sessionKept (s : State) : SessionKept s s.finishOk :=
  ⟨rfl, rfl, rfl, rfl, rfl, rfl⟩

/-- ZEROIZE leaves the same session registers whatever was there (R188). -/
theorem zeroize_sessionKept (s t : State) : SessionKept s.zeroize t.zeroize :=
  ⟨rfl, rfl, rfl, rfl, rfl, rfl⟩

/-- A stream that stands at its restart is restarted where it stands (R187, R189). -/
theorem SessionKept.restartAt_again {s t : State} {c : BitVec 64} (k : SessionKept (s.restartAt c) t)
    (hr : roundsOk s.RND = true) : SessionKept (s.restartAt c) (t.restartAt c) := by
  have hR : t.RND = s.RND := k.RND
  have hS : setCtr t.S c = setCtr s.S c := by rw [k.S, State.restartAt_S, setCtr_setCtr_same]
  constructor
  case S => exact hS
  case KS =>
    rw [State.restartAt_KS, State.restartAt_KS, hS, hR]
    exact keystream_draw_irrel _ hr _ _
  case CUR => rfl
  case RND => exact hR
  case VALID => exact k.VALID
  case EXH => rfl

/-- A command that completes without error and without an output byte leaves, done twice, what it leaves once when its
second effect keeps the session registers that its first one left. -/
theorem repeats_of_finishOk {i : Instr} {s a b : State} (hs : exec i s = .next a.finishOk)
    (ht : exec i a.finishOk = .next b.finishOk) (k : SessionKept a b) :
    ∃ t u, exec i s = .next t ∧ exec i t = .next u ∧ SessionKept t u ∧ u.response = t.response ∧
      u.LAST_ERR = t.LAST_ERR ∧ u.BUSY = t.BUSY :=
  ⟨a.finishOk, b.finishOk, hs, ht, ⟨k.S, k.KS, k.CUR, k.RND, k.VALID, k.EXH⟩, rfl, rfl, rfl⟩

/-- Settles O30: NOP writes no session register, WIPE leaves one set of them, and RESET restarts a stream that stands at
its restart. -/
theorem idempotentCommands : Obligations.IdempotentCommands := by
  unfold Obligations.IdempotentCommands
  rintro s i (rfl | rfl | ⟨rfl, hv, hr⟩)
  · exact repeats_of_finishOk rfl rfl (finishOk_sessionKept s)
  · exact repeats_of_finishOk rfl rfl (zeroize_sessionKept s s.zeroize.finishOk)
  · have hv' : (s.restartAt 0).finishOk.VALID = true := hv
    exact repeats_of_finishOk (execReset_of_session hv) (execReset_of_session hv')
      ((finishOk_sessionKept _).restartAt_again hr)

end Sys2Proof.Machine
end

section
/-! The words of the commands (30_encoding.md R72 to R74, R82, R84): decoder and encoder are inverse to each other, and
a word is illegal exactly when no row of the opcode map is its row. -/

namespace Sys2Proof

/-! ### Encoding and decoding -/

/-- Exactly the commands have a word (R73, R84). -/
theorem encode_isSome (i : Instr) : (encode i).isSome = i.isCommand := by
  cases i <;> rfl

/-- A PORT operation has no word (R84). -/
theorem encode_of_isPort {i : Instr} (hi : i.isPort = true) : encode i = none := by
  rw [← Option.not_isSome_iff_eq_none, encode_isSome]
  simpa [Instr.isPort] using hi

/-- The word of a command decodes to it (R73, R82). -/
theorem decode_encode {i : Instr} {w : BitVec 32} (h : encode i = some w) : decode w = .instr i := by
  cases i with
  | nop => cases h; decide
  | init => cases h; decide
  | pbyte d => cases h; exact Machine.decode_pbyteWord d
  | reset => cases h; decide
  | wipe => cases h; decide
  | setctr => cases h; decide
  | _ => cases h

/-- A word that decodes is the word of what it decodes to: each row of R73 fixes every bit but those of PBYTE's byte. -/
theorem encode_of_decode {w : BitVec 32} {i : Instr} (h : decode w = .instr i) : encode i = some w := by
  rw [decode_eq] at h
  split_ifs at h with nop init pbyte reset wipe setctr <;> cases h
  · exact congrArg some nop.symm
  · exact congrArg some init.symm
  · exact congrArg some (pbyte_word w pbyte)
  · exact congrArg some reset.symm
  · exact congrArg some wipe.symm
  · exact congrArg some setctr.symm

/-- Settles O2: a command has a word, which decodes to it; a PORT operation has none, and what a word decodes to is a
command. -/
theorem decodeInvertsEncode : Obligations.DecodeInvertsEncode := by
  unfold Obligations.DecodeInvertsEncode
  intro i
  constructor
  · intro hi
    obtain ⟨w, hw⟩ := Option.isSome_iff_exists.mp ((encode_isSome i).trans hi)
    exact ⟨w, hw, decode_encode hw⟩
  · intro hi
    refine ⟨encode_of_isPort hi, fun w hw => ?_⟩
    rw [Instr.isPort, decode_isCommand hw] at hi
    cases hi

/-- Settles O3: by the rows of the decoder. -/
theorem encodeInvertsDecode : Obligations.EncodeInvertsDecode := by
  unfold Obligations.EncodeInvertsDecode
  exact fun w i => encode_of_decode

/-- Settles O1: the legal words are the encodings of their commands, and the illegal ones are evaluated. -/
theorem tabledWordsDecode : Obligations.TabledWordsDecode := by
  unfold Obligations.TabledWordsDecode
  refine ⟨decode_encode rfl, decode_encode rfl, decode_encode rfl, decode_encode rfl, decode_encode rfl,
    decode_encode rfl, decode_encode rfl, decode_encode rfl, rfl, rfl, rfl, rfl, rfl, rfl, rfl, rfl, ?_⟩
  decide

/-! ### The fields of a word -/

theorem opField_toNat (w : BitVec 32) : (opField w).toNat = w.toNat % 16 := by
  simp [opField]

theorem dataField_toNat (w : BitVec 32) : (dataField w).toNat = w.toNat / 256 % 256 := by
  simp [dataField, Nat.shiftRight_eq_div_pow]

/-- The mask of the reserved bits covers [7:4] and [31:16] (R72). -/
theorem reservedZero_iff (w : BitVec 32) :
    reservedZero w = true ↔ w.extractLsb' 4 4 = 0 ∧ w.extractLsb' 16 16 = 0 := by
  rw [reservedZero, beq_iff_eq]
  constructor
  · intro h
    have low := congrArg (BitVec.extractLsb' 4 4) h
    have high := congrArg (BitVec.extractLsb' 16 16) h
    rw [BitVec.extractLsb'_and] at low high
    exact ⟨(BitVec.and_allOnes (x := w.extractLsb' 4 4)).symm.trans low,
      (BitVec.and_allOnes (x := w.extractLsb' 16 16)).symm.trans high⟩
  · rintro ⟨low, high⟩
    apply BitVec.eq_of_getLsbD_eq
    intro i hi
    have bitLow := congrArg (fun v => v.getLsbD (i - 4)) low
    have bitHigh := congrArg (fun v => v.getLsbD (i - 16)) high
    simp only [BitVec.getLsbD_extractLsb'] at bitLow bitHigh
    rw [BitVec.getLsbD_and]
    interval_cases i <;> simp_all

/-- A word whose reserved bits are 0 is its two fields (R72). -/
theorem toNat_of_reservedZero {w : BitVec 32} (h : reservedZero w = true) :
    w.toNat = 256 * (dataField w).toNat + (opField w).toNat := by
  obtain ⟨low, high⟩ := (reservedZero_iff w).mp h
  have hlow : w.toNat / 16 % 16 = 0 := by simpa [Nat.shiftRight_eq_div_pow] using congrArg BitVec.toNat low
  have hhigh : w.toNat / 65536 % 65536 = 0 := by simpa [Nat.shiftRight_eq_div_pow] using congrArg BitVec.toNat high
  have hw := w.isLt
  rw [opField_toNat, dataField_toNat]
  omega

/-- The words of PBYTE's row have its opcode (R73). -/
theorem opField_of_pbyteRow {w : BitVec 32} (h : w &&& 0xFFFF00FF = 2) : opField w = 2 := by
  have low := congrArg (BitVec.extractLsb' 0 4) h
  rw [BitVec.extractLsb'_and] at low
  exact (BitVec.and_allOnes (x := opField w)).symm.trans low

/-- The words of PBYTE's row have no reserved bit (R73). -/
theorem reservedZero_of_pbyteRow {w : BitVec 32} (h : w &&& 0xFFFF00FF = 2) : reservedZero w = true := by
  rw [reservedZero, beq_iff_eq]
  calc w &&& 0xFFFF00F0 = (w &&& 0xFFFF00FF) &&& 0xFFFF00F0 := by rw [BitVec.and_assoc]; rfl
    _ = 0 := by rw [h]; rfl

/-- The fields determine a word without reserved bits (R72). -/
theorem eq_of_fields {v w : BitVec 32} (hv : reservedZero v = true) (hw : reservedZero w = true)
    (hop : opField v = opField w) (hdata : dataField v = dataField w) : v = w := by
  apply BitVec.eq_of_toNat_eq
  rw [toNat_of_reservedZero hv, toNat_of_reservedZero hw, hop, hdata]

/-- PBYTE's row is its opcode with the reserved bits 0, whatever the byte (R73). -/
theorem pbyteRow_iff (w : BitVec 32) : w &&& 0xFFFF00FF = 2 ↔ reservedZero w = true ∧ opField w = 2 := by
  constructor
  · exact fun h => ⟨reservedZero_of_pbyteRow h, opField_of_pbyteRow h⟩
  · rintro ⟨hres, hop⟩
    have row := Machine.pbyteWord_row (dataField w)
    have e : w = Machine.pbyteWord (dataField w) :=
      eq_of_fields hres (reservedZero_of_pbyteRow row) (hop.trans (opField_of_pbyteRow row).symm)
        (Machine.dataField_pbyteWord _).symm
    rw [e]
    exact row

/-! ### Illegal words -/

/-- The word matches no row of R73, written out. -/
theorem no_row_iff (w : BitVec 32) :
    (∀ r ∈ cmdRows, ¬ r.hits w = true) ↔
      w ≠ 0 ∧ w ≠ 1 ∧ w &&& 0xFFFF00FF ≠ 2 ∧ w ≠ 3 ∧ w ≠ 4 ∧ w ≠ 5 := by
  simp only [cmdRows, CmdRow.hits, and_all_ones, List.forall_mem_cons, beq_iff_eq]
  simp

/-- A word is illegal when no row hits it, with the reason of R74 it falls under. -/
theorem decode_eq_illegal_iff (w : BitVec 32) (why : Illegal) :
    decode w = .illegal why ↔ (∀ r ∈ cmdRows, ¬ r.hits w = true) ∧ illegalReason w = why := by
  rw [← List.find?_eq_none, decode]
  cases cmdRows.find? (fun r => r.hits w) with
  | some r => simp
  | none => simp

/-- The first test of R74. -/
theorem illegalReason_eq_reservedOpcode_iff (w : BitVec 32) :
    illegalReason w = .reservedOpcode ↔ 6 ≤ (opField w).toNat := by
  unfold illegalReason
  split_ifs with hop hres <;> simp [hop]

/-- The second test of R74. -/
theorem illegalReason_eq_reservedBits_iff (w : BitVec 32) :
    illegalReason w = .reservedBits ↔ (opField w).toNat < 6 ∧ reservedZero w = false := by
  unfold illegalReason
  split_ifs with hop hres <;> simp_all

/-- What is left of R74. -/
theorem illegalReason_eq_dataField_iff (w : BitVec 32) :
    illegalReason w = .dataField ↔ (opField w).toNat < 6 ∧ reservedZero w = true := by
  unfold illegalReason
  split_ifs with hop hres <;> simp_all

/-- A reserved opcode is in no row (R73). -/
theorem no_row_of_reservedOpcode {w : BitVec 32} (h : 6 ≤ (opField w).toNat) : ∀ r ∈ cmdRows, ¬ r.hits w = true := by
  rw [no_row_iff]
  have hne : ∀ v : BitVec 32, (opField v).toNat < 6 → w ≠ v := by
    rintro v hv rfl
    omega
  refine ⟨hne 0 (by decide), hne 1 (by decide), fun row => ?_, hne 3 (by decide), hne 4 (by decide), hne 5 (by decide)⟩
  rw [opField_of_pbyteRow row] at h
  exact absurd h (by decide)

/-- A word of an opcode of R73 that is in no row for its `DATA` field alone has a nonzero one, and is no PBYTE. -/
theorem dataField_ne_zero_of_no_row {w : BitVec 32} (hrow : ∀ r ∈ cmdRows, ¬ r.hits w = true)
    (hop : (opField w).toNat < 6) (hres : reservedZero w = true) : dataField w ≠ 0 ∧ opField w ≠ 2 := by
  obtain ⟨h0, h1, h2, h3, h4, h5⟩ := (no_row_iff w).mp hrow
  have hop2 : opField w ≠ 2 := fun h => h2 ((pbyteRow_iff w).mpr ⟨hres, h⟩)
  refine ⟨fun hdata => ?_, hop2⟩
  have hw : w.toNat = (opField w).toNat := by
    rw [toNat_of_reservedZero hres, hdata]
    simp
  have hne2 : (opField w).toNat ≠ 2 := fun h => hop2 (BitVec.eq_of_toNat_eq h)
  bv_omega

/-- Settles O4: no row hits an illegal word, and the reason is the test of R74 that it falls under first. -/
theorem illegalWordsMatchNoRow : Obligations.IllegalWordsMatchNoRow := by
  unfold Obligations.IllegalWordsMatchNoRow
  intro w
  refine ⟨?noRow, ?opcode, ?bits, ?data⟩
  case noRow => simp only [decode_eq_illegal_iff, exists_and_left, exists_eq', and_true, no_row_iff]
  case opcode =>
    rw [decode_eq_illegal_iff, illegalReason_eq_reservedOpcode_iff]
    exact ⟨fun h => h.2, fun h => ⟨no_row_of_reservedOpcode h, h⟩⟩
  case bits =>
    intro h
    obtain ⟨-, hwhy⟩ := (decode_eq_illegal_iff w _).mp h
    obtain ⟨hop, hres⟩ := (illegalReason_eq_reservedBits_iff w).mp hwhy
    rw [← Bool.not_eq_true, reservedZero_iff, not_and_or] at hres
    exact ⟨hop, hres⟩
  case data =>
    intro h
    obtain ⟨hrow, hwhy⟩ := (decode_eq_illegal_iff w _).mp h
    obtain ⟨hop, hres⟩ := (illegalReason_eq_dataField_iff w).mp hwhy
    obtain ⟨hdata, hop2⟩ := dataField_ne_zero_of_no_row hrow hop hres
    obtain ⟨low, high⟩ := (reservedZero_iff w).mp hres
    exact ⟨hop, low, high, hdata, hop2⟩

end Sys2Proof
end

section
/-! The commands by name (30_encoding.md R84), the status word and the counter readout (R77 to R79). -/

namespace Sys2Proof.Machine

/-! ### Operations performed by name -/

/-- The step of a host that performs an operation by name. -/
theorem step_of_op {s : State} {i : Instr} {rest : List HostMove} (hh : s.host = .op i :: rest) :
    step s = ({ s with host := rest } : State).perform i s := by
  unfold step
  rw [hh]
  rfl

/-- A PORT operation is performed at its module's ports (R84). -/
theorem perform_of_isPort {i : Instr} (hi : i.isPort = true) (s again : State) :
    s.perform i again = exec i s.dropPulses := by
  unfold State.perform
  rw [encode_of_isPort hi]

/-- A command is performed as its word (R84). -/
theorem perform_of_encode {i : Instr} {w : BitVec 32} (hw : encode i = some w) (s again : State) :
    s.perform i again = s.present w again := by
  unfold State.perform
  rw [hw]

/-- Settles O6: a name with a word presents that word, and a name without one is run. -/
theorem stepPerformsTheNamedOperation : Obligations.StepPerformsTheNamedOperation := by
  unfold Obligations.StepPerformsTheNamedOperation
  intro s i rest hh
  constructor
  · intro hi
    rw [step_of_op hh, perform_of_isPort hi]
  · intro w hw hb
    rw [step_of_op hh, perform_of_encode hw, present_of_free (s := { s with host := rest }) hb]
    exact (step_of_issue_of_free (s := { s with host := .issue w :: rest }) rfl hb).symm

/-! ### The views -/

theorem status_BUSY (s : State) : s.status.getLsbD 0 = s.BUSY := by
  unfold State.status
  rw [BitVec.getLsbD_append]
  simp [bit]

theorem status_LAST_ERR (s : State) : s.status.extractLsb' 10 3 = s.LAST_ERR.code := by
  unfold State.status
  simp (disch := decide) only [BitVec.extractLsb'_append_eq_of_le, BitVec.extractLsb'_append_eq_of_add_le]
  exact BitVec.extractLsb'_eq_self

/-- Everything above the error field is 0 (R78). -/
theorem status_unused (s : State) : s.status.extractLsb' 13 19 = 0 := by
  unfold State.status
  simp (disch := decide) only [BitVec.extractLsb'_append_eq_of_le]
  exact BitVec.extractLsb'_eq_self

/-- Settles O38: field by field. -/
theorem statusWordLayout : Obligations.StatusWordLayout := by
  unfold Obligations.StatusWordLayout
  exact ⟨fun s => ⟨status_BUSY s, status_VALID s, status_EXH s, status_hasTestHook s, status_CUR s, status_LAST_ERR s,
    status_unused s⟩, rfl, rfl, rfl, rfl, rfl, rfl, rfl, rfl⟩

theorem ctrOf_zeroWords : ctrOf zeroWords = 0 := by decide

/-- Settles O39: the readout is the counter, and without a session the counter words are 0 (R32). -/
theorem counterReadout : Obligations.CounterReadout := by
  unfold Obligations.CounterReadout
  constructor
  · exact fun s => ctrOf_toNat s.S
  · intro s hs hv
    obtain ⟨hS, -⟩ := hs.none hv
    rw [State.ctrOut, hS, ctrOf_zeroWords]

end Sys2Proof.Machine
end

section
/-! The bus layouts (30_encoding.md R76) and the operand ports of a line of text (R81): the digits of a packed list are
its entries. -/

namespace Sys2Proof.Machine

/-- Digit `k` of a packed list is its entry `k`, and 0 past its end. -/
theorem packDigits_digit {w : Nat} (ds : List (BitVec w)) (k : Nat) :
    packDigits ds / 2 ^ (w * k) % 2 ^ w = (ds.getD k 0).toNat := by
  induction ds generalizing k with
  | nil => simp [packDigits]
  | cons d ds ih =>
    cases k with
    | zero => simp [packDigits, Nat.mod_eq_of_lt d.isLt]
    | succ k =>
      have shift : (d.toNat + 2 ^ w * packDigits ds) / 2 ^ w = packDigits ds := by
        rw [Nat.add_mul_div_left _ _ (Nat.two_pow_pos w), Nat.div_eq_of_lt d.isLt, Nat.zero_add]
      rw [packDigits, Nat.mul_succ, Nat.add_comm (w * k), Nat.pow_add, ← Nat.div_div_eq_div_mul, shift, ih k]
      rfl

/-- A packed list needs no more bits than its digits have. -/
theorem packDigits_lt {w : Nat} (ds : List (BitVec w)) : packDigits ds < 2 ^ (w * ds.length) := by
  induction ds with
  | nil => simp [packDigits]
  | cons d ds ih =>
    have hd := d.isLt
    rw [packDigits, List.length_cons, Nat.mul_succ, Nat.pow_add, Nat.mul_comm (2 ^ (w * ds.length))]
    calc d.toNat + 2 ^ w * packDigits ds < 2 ^ w * (packDigits ds + 1) := by rw [Nat.mul_succ]; omega
      _ ≤ 2 ^ w * 2 ^ (w * ds.length) := Nat.mul_le_mul_left _ ih

/-- Digit `k` of a port that is wide enough for the packed list is entry `k` of the list, and 0 past its end. -/
theorem extractLsb'_packDigits {n w : Nat} (ds : List (BitVec w)) (h : w * ds.length ≤ n) (k : Nat) :
    (BitVec.ofNat n (packDigits ds)).extractLsb' (w * k) w = ds.getD k 0 := by
  have hlt : packDigits ds < 2 ^ n := (packDigits_lt ds).trans_le (Nat.pow_le_pow_right (by decide) h)
  apply BitVec.eq_of_toNat_eq
  rw [BitVec.extractLsb'_toNat, BitVec.toNat_ofNat, Nat.mod_eq_of_lt hlt, Nat.shiftRight_eq_div_pow, packDigits_digit]

/-! ### The buses of a state and of its block -/

/-- Word `i` of a state on its bus (R76). -/
theorem wordsBus_word (x : Words16) (i : Fin 16) : (wordsBus x).extractLsb' (32 * i.val) 32 = x[i] := by
  rw [wordsBus, extractLsb'_packDigits _ (by simp)]
  simp

/-- Byte `j` of a block on its bus (R76). -/
theorem blockBus_byte (b : Block64) (j : Fin 64) : (blockBus b).extractLsb' (8 * j.val) 8 = b[j] := by
  rw [blockBus, extractLsb'_packDigits _ (by simp)]
  simp

/-- A field of a field stands at the sum of their places. -/
theorem extractLsb'_extractLsb' {n : Nat} (x : BitVec n) (a : Nat) {len b m : Nat} (h : b + m ≤ len) :
    (x.extractLsb' a len).extractLsb' b m = x.extractLsb' (a + b) m := by
  apply BitVec.eq_of_getLsbD_eq
  intro i hi
  have hin : b + i < len := by omega
  simp [hi, hin, Nat.add_assoc]

/-- Byte `j` of a state's bus is byte `j mod 4` of its word `j div 4` (R76). -/
theorem wordsBus_byte (x : Words16) (j : Fin 64) :
    (wordsBus x).extractLsb' (8 * j.val) 8 = byteLE (x[j.val / 4]) (j.val % 4) := by
  have hword : (wordsBus x).extractLsb' (32 * (j.val / 4)) 32 = x[j.val / 4] := wordsBus_word x ⟨j.val / 4, by omega⟩
  have e : 32 * (j.val / 4) + 8 * (j.val % 4) = 8 * j.val := by omega
  rw [byteLE, ← hword, extractLsb'_extractLsb' _ _ (by omega), e]

/-- Two 512-bit buses with the same bytes are the same. -/
theorem bus_ext_bytes {u v : BitVec 512} (h : ∀ j : Fin 64, u.extractLsb' (8 * j.val) 8 = v.extractLsb' (8 * j.val) 8) :
    u = v := by
  apply BitVec.eq_of_getLsbD_eq
  intro i hi
  have hbit := congrArg (fun b => b.getLsbD (i % 8)) (h ⟨i / 8, by omega⟩)
  have e : 8 * (i / 8) + i % 8 = i := Nat.div_add_mod i 8
  simpa [BitVec.getLsbD_extractLsb', e, Nat.mod_lt] using hbit

/-- Settles O40: the entries are the digits of the buses, and the two buses of a state have the same bytes. -/
theorem busLayoutsAgree : Obligations.BusLayoutsAgree := by
  unfold Obligations.BusLayoutsAgree
  refine ⟨wordsBus_word, blockBus_byte, fun x => bus_ext_bytes fun j => ?_⟩
  rw [wordsBus_byte, blockBus_byte]
  simp [serialize]

/-! ### The ports of an INIT line -/

/-- The limits of an INIT line (R81). -/
theorem initLine_wf_iff (key nonce : List Byte) (rounds klen nlen : Option Nat) :
    (AsmLine.init key nonce rounds klen nlen).wf = true ↔
      key.length ≤ 32 ∧ nonce.length ≤ 8 ∧ fits 32 rounds = true ∧ fits 8 klen = true ∧ fits 8 nlen = true := by
  simp [AsmLine.wf, and_assoc]

/-- A number of a line that fits its port, or else the default, is what the port carries. -/
theorem toNat_ofNat_getD {n : Nat} {o : Option Nat} {d : Nat} (ho : fits n o = true) (hd : d < 2 ^ n) :
    (BitVec.ofNat n (o.getD d)).toNat = o.getD d := by
  cases o with
  | none => exact Nat.mod_eq_of_lt hd
  | some v => exact Nat.mod_eq_of_lt (of_decide_eq_true ho)

/-- Settles O59: the strings are packed into ports wide enough for them, and the numbers fit their ports. -/
theorem initTextDrivesThePorts : Obligations.InitTextDrivesThePorts := by
  unfold Obligations.InitTextDrivesThePorts
  intro key nonce rounds klen nlen hwf
  obtain ⟨hkey, hnonce, hrounds, hklen, hnlen⟩ := (initLine_wf_iff key nonce rounds klen nlen).mp hwf
  refine ⟨fun k => ?key, fun k => ?nonce, ?klen, ?nlen, ?rounds⟩
  case key => exact extractLsb'_packDigits key (by omega) k
  case nonce => exact extractLsb'_packDigits nonce (by omega) k
  case klen => exact toNat_ofNat_getD hklen (by omega)
  case nlen => exact toNat_ofNat_getD hnlen (by omega)
  case rounds => exact toNat_ofNat_getD hrounds (by decide)

end Sys2Proof.Machine
end

section
/-! INIT with a 16-byte key (30_encoding.md R75, 45_stream_cipher.md R182): it reads the low half of `key_in` alone. -/

namespace Sys2Proof.Machine

/-- The bytes of the low half of a key port are those of the port. -/
theorem portByte_low_half (k : BitVec 256) {j : Nat} (hj : j < 16) :
    portByte (k.extractLsb' 0 128) j = portByte k j := by
  exact BitVec.extractLsb'_extractLsb'_of_le (by omega)

/-- The layout of a 16-byte key reads the low half of the port (R143, R145). -/
theorem layout_low_half {k k' : BitVec 256} (h : k'.extractLsb' 0 128 = k.extractLsb' 0 128) (str : Vector Byte 16)
    (n : BitVec 64) : layout str 0 k' n = layout str 0 k n := by
  have hbyte : ∀ j < 16, portByte k' j = portByte k j := fun j hj => by
    rw [← portByte_low_half k' hj, h, portByte_low_half k hj]
  have hword : ∀ j < 13, portWord k' j = portWord k j := fun j hj => by
    unfold portWord
    rw [hbyte j (by omega), hbyte (j + 1) (by omega), hbyte (j + 2) (by omega), hbyte (j + 3) (by omega)]
  simp only [layout, Nat.zero_add, hword 0 (by decide), hword 4 (by decide), hword 8 (by decide), hword 12 (by decide)]

/-- State Setup of a 16-byte key reads the low half of the port (R75). -/
theorem setup_short_key {k k' : BitVec 256} (h : k'.extractLsb' 0 128 = k.extractLsb' 0 128) (n : BitVec 64)
    (nl : Byte) : setup k' 16 n nl = setup k 16 n nl := by
  simp [setup, layout_low_half h]

/-- INIT takes from the copy of the request only State Setup's result and the round count (R182). -/
theorem execInit_congr_latch (s : State) (q q' : Request)
    (hsetup : setup q'.ops.keyIn q'.ops.keyLen q'.ops.nonceIn q'.ops.nonceLen =
      setup q.ops.keyIn q.ops.keyLen q.ops.nonceIn q.ops.nonceLen)
    (hrounds : q'.ops.roundsIn = q.ops.roundsIn) :
    execInit { s with latch := q' } = execInit { s with latch := q } := by
  simp only [execInit, hsetup, hrounds]
  cases setup q.ops.keyIn q.ops.keyLen q.ops.nonceIn q.ops.nonceLen with
  | err e => rfl
  | ok x =>
    simp only [State.initWith]
    cases ksgen x q.ops.roundsIn with
    | err e => rfl
    | ok b => rfl

/-- Settles O21: the two keys give one State Setup, so the two INITs end in one state. -/
theorem shortKeyIgnoresTheUpperHalf : Obligations.ShortKeyIgnoresTheUpperHalf := by
  unfold Obligations.ShortKeyIgnoresTheUpperHalf
  intro s o k hlen hk
  have hsetup : setup k o.keyLen o.nonceIn o.nonceLen = setup o.keyIn o.keyLen o.nonceIn o.nonceLen := by
    rw [hlen, setup_short_key hk]
  have same := execInit_congr_latch s { s.latch with ops := o } { s.latch with ops := { o with keyIn := k } } hsetup rfl
  obtain ⟨t, ht⟩ := exec_next .init { s with latch := { s.latch with ops := o } }
  exact ⟨t, t, ht, same.trans ht, ⟨rfl, rfl, rfl, rfl, rfl, rfl⟩, ⟨rfl, rfl⟩, ⟨rfl, rfl, rfl, rfl⟩, rfl, rfl, rfl, rfl⟩

end Sys2Proof.Machine
end

section
/-! The mixer and the quarter-round at their ports (41_quarter_round.md R100 to R103). -/

namespace Sys2Proof.Machine

/-- MIX samples the mixer's output and writes nothing else (R100). -/
theorem exec_mix (b c : Word) (rot : BitVec 5) (s : State) :
    exec (.mix b c rot) s = .next { s with bench := { s.bench with mix := mix b c rot } } := rfl

/-- QROUND samples the quarter-round's outputs and writes nothing else (R103). -/
theorem exec_qround (a b c d : Word) (s : State) :
    exec (.qround a b c d) s = .next { s with bench := { s.bench with z := qround a b c d } } := rfl

/-- A left rotation by less than 32 moves bit `(i - n) mod 32` to position `i` (R8). -/
theorem getLsbD_rotl32 (x : Word) {n i : Nat} (hn : n < 32) (hi : i < 32) :
    (rotl32 x n).getLsbD i = x.getLsbD ((i + 32 - n) % 32) := by
  rw [rotl32, BitVec.getLsbD_rotateLeft, Nat.mod_eq_of_lt hn]
  by_cases h : i < n
  · have wraps : (i + 32 - n) % 32 = 32 - n + i := by omega
    simp [h, wraps]
  · have shifts : (i + 32 - n) % 32 = i - n := by omega
    simp [h, hi, shifts]

/-- Settles O41: the amount of a mixer has 5 bits, so its rotation is by less than 32. -/
theorem mixRotatesTheSum : Obligations.MixRotatesTheSum := by
  unfold Obligations.MixRotatesTheSum
  intro s b c rot
  exact ⟨mix b c rot, exec_mix b c rot s, fun i hi => getLsbD_rotl32 (b + c) rot.isLt hi⟩

/-- Settles O42: the words of `qround` are the four steps. -/
theorem qroundSteps : Obligations.QroundSteps := by
  unfold Obligations.QroundSteps
  intro s a b c d
  exact ⟨qround a b c d, exec_qround a b c d s, rfl, rfl, rfl, rfl⟩

/-- The quarter-round undone: its four steps in the opposite order. A step changes the one word its sum does not read, so
the same step again takes the sum away (R103). -/
def qroundInv (q : Quad) : Quad :=
  let a := q.a ^^^ mix q.d q.c 18
  let d := q.d ^^^ mix q.c q.b 13
  let c := q.c ^^^ mix q.b a 9
  let b := q.b ^^^ mix a d 7
  { a, b, c, d }

theorem qroundInv_qround (q : Quad) : qroundInv (qround q.a q.b q.c q.d) = q := by
  simp only [qroundInv, qround, xor_cancel_right]

theorem qround_qroundInv (q : Quad) :
    qround (qroundInv q).a (qroundInv q).b (qroundInv q).c (qroundInv q).d = q := by
  simp only [qroundInv, qround, xor_cancel_right]

/-- Settles O43: `qroundInv` is a two-sided inverse. -/
theorem qroundIsABijection : Obligations.QroundIsABijection := by
  unfold Obligations.QroundIsABijection
  exact Function.bijective_iff_has_inverse.mpr ⟨qroundInv, qroundInv_qround, qround_qroundInv⟩

end Sys2Proof.Machine
end

section
/-! The rounds of the permutation engine and PERMUTE at its ports (42_permutation_engine.md R120 to R126). -/

namespace Sys2Proof.Machine

/-! ### The round functions at their ports -/

/-- COLROUND samples the column round and writes nothing else (R120). -/
theorem exec_colround (x : Words16) (s : State) :
    exec (.colround x) s = .next { s with bench := { s.bench with y := colround x } } := rfl

/-- ROWROUND samples the row round and writes nothing else (R121). -/
theorem exec_rowround (x : Words16) (s : State) :
    exec (.rowround x) s = .next { s with bench := { s.bench with y := rowround x } } := rfl

/-- DROUND samples the double-round and writes nothing else (R122). -/
theorem exec_dround (x : Words16) (s : State) :
    exec (.dround x) s = .next { s with bench := { s.bench with y := dround x } } := rfl

theorem colround_zeroWords : colround zeroWords = zeroWords := by decide

/-- Settles O44: the words of the rounds are those of the quarter-rounds of their groups. -/
theorem columnAndRowRoundGroups : Obligations.ColumnAndRowRoundGroups := by
  unfold Obligations.ColumnAndRowRoundGroups
  refine ⟨fun s x => ?column, fun s x => ?row, colround_zeroWords⟩
  case column => exact ⟨colround x, exec_colround x s, rfl, rfl, rfl, rfl⟩
  case row => exact ⟨rowround x, exec_rowround x s, rfl, rfl, rfl, rfl⟩

/-- Settles O45: the row round overwrites what the column round sampled, so only the double-round's result is left. -/
theorem doubleRoundIsColumnThenRow : Obligations.DoubleRoundIsColumnThenRow := by
  unfold Obligations.DoubleRoundIsColumnThenRow
  intro s x
  exact ⟨_, _, exec_colround x s, exec_rowround (colround x) _, exec_dround x s⟩

/-! ### The rounds are bijections -/

/-- The groups of the column round, in the order of R120. -/
def columns (x : Words16) : Fin 4 → Quad :=
  ![⟨x[0], x[4], x[8], x[12]⟩, ⟨x[5], x[9], x[13], x[1]⟩, ⟨x[10], x[14], x[2], x[6]⟩, ⟨x[15], x[3], x[7], x[11]⟩]

/-- The state with the given groups: each word is put where `columns` reads it. -/
def ofColumns (g : Fin 4 → Quad) : Words16 :=
  #v[(g 0).a, (g 1).d, (g 2).c, (g 3).b,
     (g 0).b, (g 1).a, (g 2).d, (g 3).c,
     (g 0).c, (g 1).b, (g 2).a, (g 3).d,
     (g 0).d, (g 1).c, (g 2).b, (g 3).a]

theorem ofColumns_columns (x : Words16) : ofColumns (columns x) = x := by
  ext k hk
  interval_cases k <;> rfl

theorem columns_ofColumns (g : Fin 4 → Quad) : columns (ofColumns g) = g := by
  ext1 i
  fin_cases i <;> rfl

/-- The groups of the column round hold every word once. -/
theorem columns_bijective : Function.Bijective columns :=
  Function.bijective_iff_has_inverse.mpr ⟨ofColumns, ofColumns_columns, columns_ofColumns⟩

/-- The column round is a quarter-round of each of its groups (R120). -/
theorem columns_colround (x : Words16) (i : Fin 4) :
    columns (colround x) i = qround (columns x i).a (columns x i).b (columns x i).c (columns x i).d := by
  fin_cases i <;> rfl

theorem colround_bijective : Function.Bijective colround := by
  have onGroups : columns ∘ colround = (fun g i => qround (g i).a (g i).b (g i).c (g i).d) ∘ columns :=
    funext fun x => funext (columns_colround x)
  rw [← Function.Bijective.of_comp_iff' columns_bijective, onGroups]
  exact (Function.Bijective.piMap fun _ => qroundIsABijection).comp columns_bijective

/-- The state as a 4 by 4 matrix of words, transposed. -/
def transposeWords (x : Words16) : Words16 :=
  #v[x[0], x[4], x[8], x[12], x[1], x[5], x[9], x[13], x[2], x[6], x[10], x[14], x[3], x[7], x[11], x[15]]

theorem transposeWords_involutive : Function.Involutive transposeWords := by
  intro x
  ext k hk
  interval_cases k <;> rfl

/-- The row round is the column round of the transposed matrix (R120, R121). -/
theorem rowround_eq_transposed : rowround = transposeWords ∘ colround ∘ transposeWords := rfl

theorem rowround_bijective : Function.Bijective rowround := by
  rw [rowround_eq_transposed]
  exact transposeWords_involutive.bijective.comp (colround_bijective.comp transposeWords_involutive.bijective)

theorem dround_bijective : Function.Bijective dround :=
  rowround_bijective.comp colround_bijective

/-- `n` double-rounds are the double-round iterated `n` times. -/
theorem doubleRounds_eq_iterate (n : Nat) (x : Words16) : doubleRounds n x = dround^[n] x := by
  induction n generalizing x with
  | zero => rfl
  | succ n ih => exact ih (dround x)

/-- With a valid round count PERMUTE is `R/2` double-rounds (R123). -/
theorem permute_eq_iterate (x : Words16) {R : Word} (h : roundsOk R = true) :
    permute x R = .ok (dround^[R.toNat / 2] x) := by
  rw [permute_of_roundsOk x h, doubleRounds_eq_iterate]

/-- Settles O47: PERMUTE is the double-round iterated, which is a bijection as the quarter-round is (R103). -/
theorem permuteIsABijection : Obligations.PermuteIsABijection := by
  unfold Obligations.PermuteIsABijection
  intro R hR y
  simpa only [permute_eq_iterate _ hR, Res.ok.injEq] using (dround_bijective.iterate (R.toNat / 2)).existsUnique y

/-! ### The engine at its start and its end -/

/-- After a start edge an engine is busy, whether the start was taken or ignored (R126). -/
theorem Engine.start_busy (x : Words16) (R : Word) (d : Nat) (e : Engine) : (e.start x R d).busy = true := by
  cases h : e.busy <;> simp [Engine.start, h]

/-- A start that is taken drops the done pulse (R126). -/
theorem Engine.start_done (x : Words16) (R : Word) (d : Nat) {e : Engine} (h : e.busy = false) :
    (e.start x R d).done = false := by
  simp [Engine.start, h]

/-- The end of an operation is its done pulse (R126). -/
theorem Engine.finish_done (d : Nat) {e : Engine} (h : e.busy = true) : (e.finish d).done = true := by
  simp [Engine.finish, h]

/-- The end of an operation started with 0 or an odd round count reports it (R123, R126). -/
theorem Engine.finish_start_err (x : Words16) {R : Word} (hR : roundsOk R = false) (d d' : Nat) {e : Engine}
    (hb : e.busy = false) : ((e.start x R d).finish d').err = .invalidRoundCount := by
  simp [Engine.start, Engine.finish, hb, permute_of_not_roundsOk x hR]

theorem Engine.dropDone_of_not_done {e : Engine} (h : e.done = false) : e.dropDone = e := by
  cases e
  cases h
  rfl

/-- Settles O46: an operation of an idle engine is a start that is taken and its end. -/
theorem permuteRunsHalfTheRounds : Obligations.PermuteRunsHalfTheRounds := by
  unfold Obligations.PermuteRunsHalfTheRounds
  refine ⟨fun s x R hidle => ?idle, fun s x R hbusy => ?busy⟩
  case idle =>
    obtain ⟨hbusy, -⟩ | ⟨-, hexec⟩ := execPermute_cases x R s
    · exact absurd (hidle.symm.trans hbusy) (by decide)
    · refine ⟨_, _, hexec, Engine.finish_busy _ _, Engine.finish_done _ (Engine.start_busy _ _ _ _), ?valid, ?invalid⟩
      case valid =>
        intro hne heven
        have hp := permute_eq_iterate x ((roundsOk_iff R).mpr ⟨hne, heven⟩)
        exact (Engine.finish_start_ok hp _ _ hidle).2
      case invalid => exact fun hR => Engine.finish_start_err x ((roundsOk_false_iff R).mpr hR) _ _ hidle
  case busy =>
    obtain ⟨-, hexec⟩ | ⟨hidle, -⟩ := execPermute_cases x R s
    · exact hexec
    · exact absurd (hidle.symm.trans hbusy) (by decide)

end Sys2Proof.Machine
end

section
/-! The handshake of the permutation engine at its own ports (42_permutation_engine.md R126; 70 R250, R261). -/

namespace Sys2Proof.Machine

/-! ### The host's moves as steps -/

/-- The step of a host that starts the engine (R126). -/
theorem step_of_peStart {s : State} {x : Words16} {R : Word} {rest : List HostMove}
    (hh : s.host = .peStart x R :: rest) :
    step s = .next (({ s with host := rest } : State).dropPulses.peStart x R) := by
  unfold step
  rw [hh]
  rfl

/-- The step of a host that lets one edge pass. -/
theorem step_of_idle {s : State} {rest : List HostMove} (hh : s.host = .idle :: rest) :
    step s = .next ({ s with host := rest } : State).dropPulses := by
  unfold step
  rw [hh]
  rfl

/-- The step of a host that waits, with no command in flight, ends the operations at the modules' own ports (R126,
R166). -/
theorem step_of_wait_of_free {s : State} {rest : List HostMove} (hh : s.host = .wait :: rest) (hb : s.BUSY = false) :
    step s = .next ({ s with host := rest } : State).dropPulses.endPe.endKg := by
  unfold step
  rw [hh]
  simp [State.move, State.settle, hb]

/-- The engine ends its operation if it has one, and nothing else touches it. -/
theorem endPe_bench_pe (s : State) : s.endPe.bench.pe = s.bench.pe.finish s.draws := by
  unfold State.endPe
  split
  · rfl
  · rename_i h
    exact (Engine.finish_of_idle _ (Bool.eq_false_of_not_eq_true h)).symm

/-- The generator's end leaves the engine at its own ports (log entry 6). -/
theorem endKg_bench_pe (s : State) : s.endKg.bench.pe = s.bench.pe := by
  unfold State.endKg
  split <;> rfl

/-! ### What the moves do to the engine -/

/-- A start is the engine's start edge, the pulse before it fallen. -/
theorem engine_of_peStart {s : State} {x : Words16} {R : Word} {rest : List HostMove}
    (hh : s.host = .peStart x R :: rest) :
    ∃ t, step s = .next t ∧ t.host = rest ∧ t.BUSY = s.BUSY ∧
      t.bench.pe = s.bench.pe.dropDone.start x R s.draws :=
  ⟨_, step_of_peStart hh, rfl, rfl, rfl⟩

/-- A wait with no command in flight is the end of the engine's operation, the pulse before it fallen. -/
theorem engine_of_wait {s : State} {rest : List HostMove} (hh : s.host = .wait :: rest) (hb : s.BUSY = false) :
    ∃ t, step s = .next t ∧ t.host = rest ∧ t.bench.pe = s.bench.pe.dropDone.finish s.draws := by
  refine ⟨_, step_of_wait_of_free hh hb, by simp, ?_⟩
  rw [endKg_bench_pe, endPe_bench_pe]
  rfl

/-- An idle edge is the fall of the pulse. -/
theorem engine_of_idle {s : State} {rest : List HostMove} (hh : s.host = .idle :: rest) :
    ∃ t, step s = .next t ∧ t.bench.pe = s.bench.pe.dropDone :=
  ⟨_, step_of_idle hh, rfl⟩

/-- Settles O51: the engine of each state is the one before, started, ended, with its pulse fallen, or reset. -/
theorem engineHandshake : Obligations.EngineHandshake := by
  unfold Obligations.EngineHandshake
  intro s x y R Q p hfree hidle hp
  have hidle' : s.bench.pe.dropDone.busy = false := hidle
  obtain ⟨a, stepA, hostA, freeA, peA⟩ :=
    engine_of_peStart (s := { s with host := [.peStart x R, .peStart y Q, .wait, .idle] }) rfl
  have busyA : a.bench.pe.busy = true := peA ▸ Engine.start_busy x R _ _
  have lowA : a.bench.pe.done = false := peA ▸ Engine.start_done x R _ hidle'
  obtain ⟨b, stepB, hostB, freeB, peB⟩ := engine_of_peStart hostA
  rw [Engine.dropDone_of_not_done lowA, Engine.start_of_busy y Q _ busyA] at peB
  obtain ⟨c, stepC, hostC, peC⟩ := engine_of_wait hostB (freeB.trans (freeA.trans hfree))
  rw [peB, Engine.dropDone_of_not_done lowA] at peC
  obtain ⟨doneC, errC, outC⟩ : c.bench.pe.done = true ∧ c.bench.pe.err = .ok ∧ c.bench.pe.stateOut = p := by
    rw [peC, peA]
    exact Engine.finish_start_ok hp _ _ hidle'
  obtain ⟨d, stepD, peD⟩ := engine_of_idle hostC
  exact ⟨a, b, c, d, _, stepA, busyA, lowA, stepB, peB, stepC, peC ▸ Engine.finish_busy _ _, doneC, errC, outC,
    stepD, peD ▸ rfl, peD ▸ outC, step_of_rst rfl, rfl⟩

end Sys2Proof.Machine
end

section
/-! SETUP at its ports (43_state_setup.md R140 to R149): what it checks, and where the layout puts the operands. -/

namespace Sys2Proof.Machine

/-- SETUP samples State Setup's result and writes nothing else (R148). -/
theorem exec_setup (k : BitVec 256) (kl : Byte) (n : BitVec 64) (nl : Byte) (s : State) :
    exec (.setup k kl n nl) s = .next { s with bench := { s.bench with setup := setup k kl n nl } } := rfl

/-- Settles O48: the three answers of State Setup exclude each other, and so do their conditions on the lengths. -/
theorem setupChecksTheLengths : Obligations.SetupChecksTheLengths := by
  unfold Obligations.SetupChecksTheLengths
  intro s k kl n nl
  refine ⟨setup k kl n nl, exec_setup k kl n nl s, ?_⟩
  obtain ⟨h16, h32, hr⟩ | ⟨hk, hn, hr⟩ | ⟨rfl, rfl, hr⟩ | ⟨rfl, rfl, hr⟩ := setup_cases k kl n nl <;> rw [hr]
  · have hk : ¬(kl = 16 ∨ kl = 32) := not_or.mpr ⟨h16, h32⟩
    exact ⟨iff_of_true rfl ⟨h16, h32⟩, iff_of_false nofun fun h => hk h.1, iff_of_false nofun fun h => hk h.1⟩
  · exact ⟨iff_of_false nofun fun h => not_or.mpr h hk, iff_of_true rfl ⟨hk, hn⟩, iff_of_false nofun fun h => hn h.2⟩
  · exact ⟨iff_of_false nofun fun h => h.2 rfl, iff_of_false nofun fun h => h.2 rfl,
      iff_of_true ⟨_, rfl⟩ ⟨.inr rfl, rfl⟩⟩
  · exact ⟨iff_of_false nofun fun h => h.1 rfl, iff_of_false nofun fun h => h.2 rfl,
      iff_of_true ⟨_, rfl⟩ ⟨.inl rfl, rfl⟩⟩

/-! ### The words of the layout -/

/-- The word of four bytes of a port is the 32-bit field that starts at the first of them (R9, R53). -/
theorem portWord_eq_extractLsb' {n : Nat} (port : BitVec n) (j : Nat) :
    portWord port j = port.extractLsb' (8 * j) 32 := by
  simp (disch := omega) only [portWord, le32, portByte, BitVec.extractLsb'_append_extractLsb'_eq_extractLsb']

/-- Words 1 to 4 are the first sixteen bytes of the key (R144). -/
theorem layout_firstKeyWord (str : Vector Byte 16) (k2 : Nat) (k : BitVec 256) (n : BitVec 64) (i : Fin 4) :
    (layout str k2 k n)[1 + i.val] = k.extractLsb' (32 * i.val) 32 := by
  have hword : (layout str k2 k n)[1 + i.val] = portWord k (4 * i.val) := by fin_cases i <;> rfl
  rw [hword, portWord_eq_extractLsb', ← Nat.mul_assoc]

/-- Words 11 to 14 are the sixteen bytes of the key from byte `k2` on (R145). -/
theorem layout_secondKeyWord (str : Vector Byte 16) (k2 : Nat) (k : BitVec 256) (n : BitVec 64) (i : Fin 4) :
    (layout str k2 k n)[11 + i.val] = k.extractLsb' (8 * k2 + 32 * i.val) 32 := by
  have hword : (layout str k2 k n)[11 + i.val] = portWord k (k2 + 4 * i.val) := by fin_cases i <;> rfl
  rw [hword, portWord_eq_extractLsb', Nat.mul_add, ← Nat.mul_assoc]

/-- Words 6 and 7 are the nonce (R146). -/
theorem layout_nonceWord (str : Vector Byte 16) (k2 : Nat) (k : BitVec 256) (n : BitVec 64) (i : Fin 2) :
    (layout str k2 k n)[6 + i.val] = n.extractLsb' (32 * i.val) 32 := by
  have hword : (layout str k2 k n)[6 + i.val] = portWord n (4 * i.val) := by fin_cases i <;> rfl
  rw [hword, portWord_eq_extractLsb', ← Nat.mul_assoc]

/-- Settles O49: a 16-byte key has the layout of tau with its bytes again, a 32-byte key that of sigma with its second
half. -/
theorem setupPlacesKeyNonceAndConstants : Obligations.SetupPlacesKeyNonceAndConstants := by
  unfold Obligations.SetupPlacesKeyNonceAndConstants
  rintro s k kl n (rfl | rfl)
  · refine ⟨layout tau 0 k n, exec_setup k 16 n 8 s, rfl, rfl, fun h => absurd h (by decide), fun _ => ⟨rfl, rfl⟩,
      layout_firstKeyWord tau 0 k n, fun _ h => absurd h (by decide), fun i _ => ?_, layout_nonceWord tau 0 k n, rfl,
      rfl⟩
    simpa using layout_secondKeyWord tau 0 k n i
  · exact ⟨layout sigma 16 k n, exec_setup k 32 n 8 s, rfl, rfl, fun _ => ⟨rfl, rfl⟩, fun h => absurd h (by decide),
      layout_firstKeyWord sigma 16 k n, fun i _ => layout_secondKeyWord sigma 16 k n i,
      fun _ h => absurd h (by decide), layout_nonceWord sigma 16 k n, rfl, rfl⟩

end Sys2Proof.Machine
end

section
/-! KSGEN and the handshake of the keystream generator at its own ports (44_keystream_generator.md R160 to R166; 70
R250, R261). -/

namespace Sys2Proof.Machine

/-! ### The block of a permuted state -/

/-- When PERMUTE succeeds, the block is the add-back of its result, serialized (R160, R163). -/
theorem ksgen_of_permute_ok {x : Words16} {R : Word} {p : Words16} (h : permute x R = .ok p) :
    ksgen x R = .ok (serialize (addBack p x)) := by
  simp [ksgen, h]

/-- Byte `j` of a serialized add-back is byte `j mod 4` of the sum of the words `j div 4` (R164, R165). -/
theorem serialize_addBack_byte (p x : Words16) (j : Fin 64) :
    (serialize (addBack p x))[j] = (p[j.val / 4] + x[j.val / 4]).extractLsb' (8 * (j.val % 4)) 8 := by
  simp [serialize, addBack, byteLE]

/-! ### The generator at its start and its end -/

/-- After a start edge a generator is busy, whether the start was taken or ignored (R166). -/
theorem Generator.start_busy (x : Words16) (R : Word) (d : Nat) (g : Generator) : (g.start x R d).busy = true := by
  cases h : g.busy <;> simp [Generator.start, h]

/-- A start that is taken leaves no done pulse to fall, neither the generator's nor its engine's (R166). -/
theorem Generator.dropDone_start (x : Words16) (R : Word) (d : Nat) {g : Generator} (h : g.busy = false) :
    (g.start x R d).dropDone = g.start x R d := by
  simp [Generator.start, Engine.start, Generator.dropDone, Engine.dropDone, h]

/-- The end of an operation is its done pulse (R166). -/
theorem Generator.finish_done (d : Nat) {g : Generator} (h : g.busy = true) : (g.finish d).done = true := by
  simp [Generator.finish, h]

/-- The end of an operation started with 0 or an odd round count reports it (R161, R166). -/
theorem Generator.finish_start_err (x : Words16) {R : Word} (hR : roundsOk R = false) (d d' : Nat) {g : Generator}
    (hb : g.busy = false) : ((g.start x R d).finish d').err = .invalidRoundCount := by
  simp [Generator.start, Engine.start, Generator.finish, hb, ksgen_of_not_roundsOk x hR]

/-- Settles O50: an operation of an idle generator is a start that is taken and its end. -/
theorem ksgenSerializesTheAddBack : Obligations.KsgenSerializesTheAddBack := by
  unfold Obligations.KsgenSerializesTheAddBack
  refine ⟨fun s x R hidle => ?idle, fun s x R hbusy => ?busy⟩
  case idle =>
    obtain ⟨hbusy, -⟩ | ⟨-, hexec⟩ := execKsgen_cases x R s
    · exact absurd (hidle.symm.trans hbusy) (by decide)
    · refine ⟨_, _, hexec, Generator.finish_busy _ _, Generator.finish_done _ (Generator.start_busy _ _ _ _), ?valid,
        ?invalid⟩
      case valid =>
        intro p hp
        obtain ⟨-, herr, hblock⟩ := Generator.finish_start_ok (ksgen_of_permute_ok hp) s.draws (s.draws + 1) hidle
        exact ⟨herr, fun j => by rw [hblock, serialize_addBack_byte]⟩
      case invalid => exact fun hR => Generator.finish_start_err x ((roundsOk_false_iff R).mpr hR) _ _ hidle
  case busy =>
    obtain ⟨-, hexec⟩ | ⟨hidle, -⟩ := execKsgen_cases x R s
    · exact hexec
    · exact absurd (hidle.symm.trans hbusy) (by decide)

/-! ### What the host's moves do to the generator -/

/-- The engine's end leaves the generator at its own ports (log entry 6). -/
theorem endPe_bench_kg (s : State) : s.endPe.bench.kg = s.bench.kg := by
  unfold State.endPe
  split <;> rfl

/-- The generator ends its operation if it has one, and nothing else touches it. -/
theorem endKg_bench_kg (s : State) : s.endKg.bench.kg = s.bench.kg.finish s.draws := by
  unfold State.endKg
  split
  · rfl
  · rename_i h
    exact (Generator.finish_of_idle _ (Bool.eq_false_of_not_eq_true h)).symm

/-- A start is the generator's start edge, the pulses before it fallen (R166). -/
theorem generator_of_kgStart {s : State} {x : Words16} {R : Word} {rest : List HostMove}
    (hh : s.host = .kgStart x R :: rest) :
    ∃ t, step s = .next t ∧ t.host = rest ∧ t.BUSY = s.BUSY ∧
      t.bench.kg = s.bench.kg.dropDone.start x R s.draws := by
  refine ⟨({ s with host := rest } : State).dropPulses.kgStart x R, ?_, rfl, rfl, rfl⟩
  unfold step
  rw [hh]
  rfl

/-- A wait with no command in flight is the end of the generator's operation, the pulses before it fallen; which free
values it draws depends on whether the engine at its own ports ends an operation too. -/
theorem generator_of_wait {s : State} {rest : List HostMove} (hh : s.host = .wait :: rest) (hb : s.BUSY = false) :
    ∃ t d, step s = .next t ∧ t.host = rest ∧ t.bench.kg = s.bench.kg.dropDone.finish d := by
  refine ⟨_, ({ s with host := rest } : State).dropPulses.endPe.draws, step_of_wait_of_free hh hb, by simp, ?_⟩
  rw [endKg_bench_kg, endPe_bench_kg]
  rfl

/-- An idle edge is the fall of the generator's pulses. -/
theorem generator_of_idle {s : State} {rest : List HostMove} (hh : s.host = .idle :: rest) :
    ∃ t, step s = .next t ∧ t.bench.kg = s.bench.kg.dropDone :=
  ⟨_, step_of_idle hh, rfl⟩

/-- Settles O52: the generator of each state is the one before, started, ended, with its pulses fallen, or reset. -/
theorem generatorHandshake : Obligations.GeneratorHandshake := by
  unfold Obligations.GeneratorHandshake
  intro s x y R Q k hfree hidle hk
  have hidle' : s.bench.kg.dropDone.busy = false := hidle
  obtain ⟨a, stepA, hostA, freeA, kgA⟩ :=
    generator_of_kgStart (s := { s with host := [.kgStart x R, .kgStart y Q, .wait, .idle] }) rfl
  have busyA : a.bench.kg.busy = true := kgA ▸ Generator.start_busy x R _ _
  have restA : a.bench.kg.dropDone = a.bench.kg := kgA ▸ Generator.dropDone_start x R _ hidle'
  have lowA : a.bench.kg.done = false := restA ▸ Generator.dropDone_done _
  obtain ⟨b, stepB, hostB, freeB, kgB⟩ := generator_of_kgStart hostA
  rw [restA, Generator.start_of_busy y Q _ busyA] at kgB
  obtain ⟨c, n, stepC, hostC, kgC⟩ := generator_of_wait hostB (freeB.trans (freeA.trans hfree))
  rw [kgB, restA] at kgC
  obtain ⟨doneC, errC, blockC⟩ : c.bench.kg.done = true ∧ c.bench.kg.err = .ok ∧ c.bench.kg.block = k := by
    rw [kgC, kgA]
    exact Generator.finish_start_ok hk _ _ hidle'
  obtain ⟨d, stepD, kgD⟩ := generator_of_idle hostC
  exact ⟨a, b, c, d, _, stepA, busyA, lowA, stepB, kgB, stepC, kgC ▸ Generator.finish_busy _ _, doneC, errC, blockC,
    stepD, kgD ▸ rfl, kgD ▸ blockC, step_of_rst rfl, rfl⟩

end Sys2Proof.Machine
end

section
/-! The commands of the stream cipher (45_stream_cipher.md R181 to R189), one by one. -/

namespace Sys2Proof.Machine

/-! ### Completions -/

theorem responded_complete (d : Byte) (dv : Bool) (e : ErrKind) (s : State) : Responded (s.complete d dv e) d dv e :=
  ⟨rfl, rfl, rfl, rfl, rfl, rfl⟩

/-- A completion writes no session register (R180, R224). -/
theorem raise_sessionKept (e : ErrKind) (s : State) : SessionKept s (s.raise e) :=
  ⟨rfl, rfl, rfl, rfl, rfl, rfl⟩

/-- An operation that only raises writes the response and nothing else (R224). A completion without error and without an
output byte is the case of code OK (R181). -/
theorem exec_onlyResponds {i : Instr} {s : State} {e : ErrKind} (h : exec i s = .next (s.raise e)) :
    ∃ t, exec i s = .next t ∧ Responded t 0x00 false e ∧ SessionKept s t ∧ GeneratorKept s t ∧ OutsideKept s t :=
  ⟨_, h, responded_complete _ _ _ s, raise_sessionKept e s, ⟨rfl, rfl⟩, ⟨rfl, rfl, rfl, rfl⟩⟩

/-- Settles O17: NOP is a completion and nothing else. -/
theorem nopOnlyResponds : Obligations.NopOnlyResponds := by
  unfold Obligations.NopOnlyResponds
  exact fun s => exec_onlyResponds (i := .nop) (e := .ok) rfl

/-- Settles O27: WIPE is ZEROIZE and a completion. -/
theorem wipeZeroesEverything : Obligations.WipeZeroesEverything := by
  unfold Obligations.WipeZeroesEverything
  intro s
  exact ⟨s.zeroize.finishOk, rfl, getElem_zeroWords, getElem_zeroBlock, rfl, rfl, rfl, rfl, rfl,
    responded_complete _ _ _ s.zeroize, ⟨rfl, rfl, rfl, rfl⟩⟩

/-! ### INIT -/

/-- State Setup succeeds with both lengths right (R141, R142). -/
theorem setup_ok_of_lengths (k : BitVec 256) {kl : Byte} (n : BitVec 64) {nl : Byte} (hk : kl = 16 ∨ kl = 32)
    (hn : nl = 8) : ∃ x, setup k kl n nl = .ok x := by
  obtain ⟨h16, h32, -⟩ | ⟨-, hn', -⟩ | ⟨-, -, h⟩ | ⟨-, -, h⟩ := setup_cases k kl n nl
  · exact absurd hk (not_or.mpr ⟨h16, h32⟩)
  · exact absurd hn hn'
  · exact ⟨_, h⟩
  · exact ⟨_, h⟩

/-- Settles O18: with valid lengths State Setup succeeds, and with a valid round count the generator too. -/
theorem initCreatesTheSession : Obligations.InitCreatesTheSession := by
  unfold Obligations.InitCreatesTheSession
  intro s hkey hnonce hpos heven
  obtain ⟨x, hx⟩ := setup_ok_of_lengths s.latch.ops.keyIn s.latch.ops.nonceIn hkey hnonce
  have hb := ksgen_of_roundsOk x ((roundsOk_iff _).mpr ⟨hpos, heven⟩)
  exact ⟨_, x, _, hx, hb, execInit_of_ksgen_ok hx hb, rfl, rfl, rfl, rfl, rfl, rfl, responded_complete _ _ _ _,
    ⟨rfl, rfl, rfl, rfl⟩⟩

/-- Settles O20: State Setup and the generator read the operands alone, and each outcome writes every session register. -/
theorem initForgetsThePast : Obligations.InitForgetsThePast := by
  unfold Obligations.InitForgetsThePast
  intro s t hops
  obtain ⟨e, hx, hs⟩ | ⟨x, e, hx, hb, hs⟩ | ⟨x, b, hx, hb, hs⟩ := execInit_cases s <;> rw [hops] at hx
  · exact ⟨_, _, hs, execInit_of_setup_err hx, ⟨rfl, rfl, rfl, rfl, rfl, rfl⟩, rfl⟩
  · rw [hops] at hb
    exact ⟨_, _, hs, execInit_of_ksgen_err hx hb, ⟨rfl, rfl, rfl, rfl, rfl, rfl⟩, rfl⟩
  · rw [hops] at hb hs
    exact ⟨_, _, hs, execInit_of_ksgen_ok hx hb, ⟨rfl, rfl, rfl, rfl, rfl, rfl⟩, rfl⟩

/-! ### RESET and SETCTR -/

/-- A stream restarted at counter `c`, and the completion: what RESET and SETCTR leave of a session (R187, R189). -/
theorem restartAt_finishOk_restarts (c : BitVec 64) {s t : State} (hv : s.VALID = true) (hr : roundsOk s.RND = true)
    (ht : t = (s.restartAt c).finishOk) :
    t.S[8] = c.extractLsb' 0 32 ∧ t.S[9] = c.extractLsb' 32 32 ∧ KeyPartKept s.S t.S ∧ t.CUR = 0 ∧ t.EXH = false ∧
      ksgen t.S t.RND = .ok t.KS ∧ t.RND = s.RND ∧ t.VALID = true ∧ Responded t 0x00 false .ok ∧ OutsideKept s t := by
  subst ht
  exact ⟨setCtr_low s.S c, setCtr_high s.S c, keyPartKept_setCtr s.S c, rfl, rfl, ksgen_eq_keystream _ hr _, rfl, hv,
    responded_complete _ _ _ _, ⟨rfl, rfl, rfl, rfl⟩⟩

/-- Settles O26: RESET restarts the stream at counter 0. -/
theorem resetRestartsTheStream : Obligations.ResetRestartsTheStream := by
  unfold Obligations.ResetRestartsTheStream
  constructor
  · intro s hv hr
    exact ⟨_, execReset_of_session hv, restartAt_finishOk_restarts 0 hv hr rfl⟩
  · intro s hv
    exact exec_onlyResponds (i := .reset) (execReset_of_no_session hv)

/-- Settles O28: SETCTR restarts the stream at the sampled counter, and only answers where it may not. -/
theorem setctrMovesTheCounter : Obligations.SetctrMovesTheCounter := by
  unfold Obligations.SetctrMovesTheCounter
  refine ⟨fun s hh hv hr => ?session, fun s hh => ?noHook, fun s hh hv => ?noSession⟩
  case session => exact ⟨_, execSetctr_of_session hh hv, restartAt_finishOk_restarts s.latch.ops.ctrIn hv hr rfl⟩
  case noHook => exact exec_onlyResponds (i := .setctr) (execSetctr_of_no_hook hh)
  case noSession => exact exec_onlyResponds (i := .setctr) (execSetctr_of_no_session hh hv)

/-- Settles O29: with a session both restart the stream at counter 0, without one both answer NoSession. -/
theorem setctrZeroIsReset : Obligations.SetctrZeroIsReset := by
  unfold Obligations.SetctrZeroIsReset
  intro s hh hzero
  change execSetctr s = execReset s
  obtain ⟨hv, h⟩ | ⟨hv, h⟩ := execReset_cases s
  · rw [h, execSetctr_of_no_session hh hv]
  · rw [h, execSetctr_of_session hh hv, hzero]

/-! ### PBYTE -/

/-- The cursor wraps exactly after the last byte of the block (R184). -/
theorem cursor_wraps_iff (c : BitVec 6) : c + 1 = 0 ↔ c = 63 := by
  constructor <;> intro h <;> bv_omega

/-- Settles O22: with the cursor before the last byte PBYTE completes with its byte. -/
theorem pbyteInsideABlock : Obligations.PbyteInsideABlock := by
  unfold Obligations.PbyteInsideABlock
  intro s din hv he hc
  have hnext : s.CUR + 1 ≠ 0 := mt (cursor_wraps_iff s.CUR).mp hc
  exact ⟨_, execPbyte_of_inside din hv he hnext, responded_complete _ _ _ _, rfl, rfl, rfl, rfl, hv, he, ⟨rfl, rfl⟩,
    ⟨rfl, rfl, rfl, rfl⟩⟩

/-- The increment with carry is the increment of the 64-bit counter (R185). -/
theorem ctrOf_incrCtr (x : Words16) : ctrOf (incrCtr x) = ctrOf x + 1 :=
  BitVec.eq_of_toNat_eq ((ctrOf_incrCtr_toNat x).trans (BitVec.toNat_add (ctrOf x) 1).symm)

/-- A PBYTE at the boundary whose counter overflows exhausts the session (R185). -/
theorem execPbyte_of_overflow (din : Byte) {s : State} (hv : s.VALID = true) (he : s.EXH = false) (hc : s.CUR + 1 = 0)
    (hov : ctrOverflows s.S = true) :
    execPbyte din s = .next (({ s with CUR := s.CUR + 1, S := incrCtr s.S, EXH := true } : State).complete
      (din ^^^ s.KS[s.CUR.toNat]) true .nonceLimitExceeded) := by
  rw [execPbyte_of_boundary din hv he hc, State.boundary_of_overflows (s := { s with CUR := s.CUR + 1 }) _ hov]

/-- A PBYTE at the boundary whose counter does not overflow generates the block of the next counter (R185). -/
theorem execPbyte_of_next_block (din : Byte) {s : State} (hv : s.VALID = true) (he : s.EXH = false)
    (hc : s.CUR + 1 = 0) (hov : ctrOverflows s.S = false) :
    execPbyte din s = .next (({ s with CUR := s.CUR + 1, S := incrCtr s.S } : State).regenerate.complete
      (din ^^^ s.KS[s.CUR.toNat]) true .ok) := by
  rw [execPbyte_of_boundary din hv he hc, State.boundary_of_not_overflows (s := { s with CUR := s.CUR + 1 }) _ hov]

/-- Settles O23: the boundary steps the counter, and the overflow of the counter decides between the next block and the
exhausted session. -/
theorem pbyteAtTheBlockBoundary : Obligations.PbyteAtTheBlockBoundary := by
  unfold Obligations.PbyteAtTheBlockBoundary
  intro s din hv he hc hr
  have hwrap : s.CUR + 1 = 0 := (cursor_wraps_iff s.CUR).mpr hc
  have hbyte : s.KS[s.CUR.toNat] = s.KS[63] := by simp [hc]
  rw [← hbyte]
  have hctr : ctrOf (incrCtr s.S) = ctrOf s.S + 1 := ctrOf_incrCtr s.S
  have hkey : KeyPartKept s.S (incrCtr s.S) := keyPartKept_incrCtr s.S
  by_cases hmax : ctrOf s.S = 0xFFFFFFFFFFFFFFFF
  · have hov : ctrOverflows s.S = true := (ctrOverflows_iff s.S).mpr hmax
    exact ⟨_, execPbyte_of_overflow din hv he hwrap hov, hwrap, rfl, hv, hctr, hkey, ⟨rfl, rfl, rfl, rfl⟩,
      fun hne => absurd hmax hne,
      fun _ => ⟨responded_complete _ _ _ _, rfl, rfl, ctrOf_incrCtr_of_overflows hov, ⟨rfl, rfl⟩⟩⟩
  · have hov : ctrOverflows s.S = false := Bool.eq_false_iff.mpr (mt (ctrOverflows_iff s.S).mp hmax)
    exact ⟨_, execPbyte_of_next_block din hv he hwrap hov, hwrap, rfl, hv, hctr, hkey, ⟨rfl, rfl, rfl, rfl⟩,
      fun _ => ⟨responded_complete _ _ _ _, he, ksgen_eq_keystream _ hr _⟩, fun e => absurd e hmax⟩

/-! ### The EXHAUSTED phase -/

theorem phase_eq_exhausted_iff (s : State) : s.phase = .exhausted ↔ s.VALID = true ∧ s.EXH = true := by
  unfold State.phase
  cases s.VALID with
  | false => simp
  | true =>
    cases s.EXH with
    | true => simp
    | false => by_cases hc : s.CUR = 0#6 <;> simp [hc]

theorem SessionKept.phase {s t : State} (k : SessionKept s t) : t.phase = s.phase := by
  unfold State.phase
  rw [k.VALID, k.EXH, k.CUR]

/-- Every operation but RESET, INIT, WIPE and SETCTR on a part with the hook keeps the session registers of an exhausted
session (R186). -/
theorem exec_sessionKept_of_exhausted {i : Instr} {s t : State} (hv : s.VALID = true) (he : s.EXH = true)
    (hreset : i ≠ .reset) (hinit : i ≠ .init) (hwipe : i ≠ .wipe) (hsetctr : i = .setctr → s.cfg.hasTestHook = false)
    (h : exec i s = .next t) : SessionKept s t := by
  cases i with
  | reset => exact absurd rfl hreset
  | init => exact absurd rfl hinit
  | wipe => exact absurd rfl hwipe
  | nop =>
    cases h
    exact finishOk_sessionKept s
  | pbyte din =>
    cases (execPbyte_of_exhausted din hv he).symm.trans h
    exact raise_sessionKept _ s
  | setctr =>
    cases (execSetctr_of_no_hook (hsetctr rfl)).symm.trans h
    exact raise_sessionKept _ s
  | mix | qround | colround | rowround | dround | permute | setup | ksgen => exact exec_port_sessionKept rfl h

/-- RESET, INIT, WIPE and SETCTR with the hook leave no exhausted session: there is none, or it is not exhausted (R186). -/
theorem exec_leaves_exhausted {i : Instr} {s t : State} (hv : s.VALID = true)
    (hi : i = .reset ∨ i = .init ∨ i = .wipe ∨ (i = .setctr ∧ s.cfg.hasTestHook = true)) (h : exec i s = .next t) :
    t.VALID = false ∨ t.EXH = false := by
  obtain rfl | rfl | rfl | ⟨rfl, hh⟩ := hi
  · cases (execReset_of_session hv).symm.trans h
    exact .inr rfl
  · obtain ⟨e, -, h'⟩ | ⟨x, e, -, -, h'⟩ | ⟨x, b, -, -, h'⟩ := execInit_cases s <;> cases h'.symm.trans h <;>
      exact .inr rfl
  · cases h
    exact .inl rfl
  · cases (execSetctr_of_session hh hv).symm.trans h
    exact .inr rfl

/-- Settles O24: on an exhausted session PBYTE only answers; the four named commands clear the exhaustion or the session,
every other operation keeps both. -/
theorem exhaustedSessionRefusesBytes : Obligations.ExhaustedSessionRefusesBytes := by
  unfold Obligations.ExhaustedSessionRefusesBytes
  refine ⟨fun s din hv he => ?pbyte, fun s t i hp h => ⟨?stays, ?leaves⟩, fun s => rfl⟩
  case pbyte => exact exec_onlyResponds (i := .pbyte din) (execPbyte_of_exhausted din hv he)
  case stays =>
    intro hreset hinit hwipe hsetctr
    obtain ⟨hv, he⟩ := (phase_eq_exhausted_iff s).mp hp
    rw [(exec_sessionKept_of_exhausted hv he hreset hinit hwipe hsetctr h).phase, hp]
  case leaves =>
    intro hi hp'
    obtain ⟨hv, -⟩ := (phase_eq_exhausted_iff s).mp hp
    obtain ⟨hv', he'⟩ := (phase_eq_exhausted_iff t).mp hp'
    obtain hv0 | he0 := exec_leaves_exhausted hv hi h
    · exact absurd (hv'.symm.trans hv0) (by decide)
    · exact absurd (he'.symm.trans he0) (by decide)

end Sys2Proof.Machine
end

section
/-! The stream of a session (45_stream_cipher.md R191 to R193): the host's PBYTEs give its bytes in order, up to the limit
of 2^70. -/

namespace Sys2Proof.Machine

/-! ### PBYTES, one byte at a time (R83) -/

/-- A byte that completes without error is followed by the rest of the bytes. -/
theorem pbytes_cons_of_ok {b : Byte} {s t : State} (h : s.transact (pbyteWord b) = .next t) (ht : t.RSP_ERR = .ok)
    (bs : List Byte) :
    pbytes (b :: bs) s =
      { out := t.response.byte? ++ (pbytes bs t).out, err := (pbytes bs t).err, state := (pbytes bs t).state } := by
  simp [pbytes, h, ht]

/-- A byte that completes with an error is the last. -/
theorem pbytes_cons_of_err {b : Byte} {s t : State} (h : s.transact (pbyteWord b) = .next t) (ht : t.RSP_ERR ≠ .ok)
    (bs : List Byte) :
    pbytes (b :: bs) s = { out := t.response.byte?, err := t.RSP_ERR, state := t } := by
  simp [pbytes, h, ht]

/-! ### The stream at a position -/

section
variable {K : Words16} {R : Word} {n : Nat} {s : State} (h : AtPosition K R n s)
include h

/-- The session state at a position is the key part with the counter of the position's block. -/
theorem AtPosition.words_eq : setCtr K (BitVec.ofNat 64 (n / 64)) = s.S := by
  rw [← h.ctr, BitVec.ofNat_toNat, BitVec.setWidth_eq, setCtr_eq_of_key h.key]

/-- The stream's bytes of the block of the position are the bytes of `KS` (R191). -/
theorem AtPosition.streamByte_eq {m : Nat} (hm : m / 64 = n / 64) :
    streamByte K R m = s.KS[m % 64]'(Nat.mod_lt m (by decide)) := by
  have hblock := h.block
  rw [h.rounds] at hblock
  simp only [streamByte, hm, h.words_eq, keystream_eq_of_ksgen hblock]

/-- The byte at the cursor is the stream's byte at the position. -/
theorem AtPosition.cursorByte : s.KS[s.CUR.toNat] = streamByte K R n := by
  simp only [h.streamByte_eq rfl, h.cur]

theorem AtPosition.wraps_iff : s.CUR + 1 = 0 ↔ n % 64 = 63 := by
  rw [cursor_wraps_iff, ← h.cur, ← BitVec.toNat_inj]
  rfl

theorem AtPosition.next_cur : (s.CUR + 1).toNat = (n + 1) % 64 := by
  rw [BitVec.toNat_add, h.cur]
  change (n % 64 + 1) % 64 = (n + 1) % 64
  omega

/-- The counter of a position at a block boundary overflows exactly when the limit follows it (R192). -/
theorem AtPosition.overflows_iff (hn : n % 64 = 63) : ctrOverflows s.S = true ↔ n + 1 = streamLimit := by
  rw [ctrOverflows_iff, ← BitVec.toNat_inj, h.ctr]
  change n / 64 = 18446744073709551615 ↔ n + 1 = 1180591620717411303424
  omega

/-- A PBYTE before the last byte of a block gives the stream's byte and goes on inside the block (R184). -/
theorem AtPosition.transact_inside (hn : n % 64 ≠ 63) (b : Byte) :
    ∃ t, s.transact (pbyteWord b) = .next t ∧
      t.response = { data := b ^^^ streamByte K R n, dv := true, err := .ok } ∧ AtPosition K R (n + 1) t := by
  have hcur : s.CUR + 1 ≠ 0 := mt h.wraps_iff.mp hn
  refine ⟨_, (transact_pbyteWord b s).trans (execPbyte_of_inside b h.valid h.live hcur), ?response, ?position⟩
  case response => rw [← h.cursorByte]; rfl
  case position =>
    have hctr : n / 64 = (n + 1) / 64 := by omega
    exact ⟨h.valid, h.live, h.rounds, h.key, h.ctr.trans hctr, h.next_cur, rfl, h.block⟩

/-- A PBYTE on the last byte of a block, short of the limit, gives the stream's byte and goes on to the next block
(R185). -/
theorem AtPosition.transact_boundary (hn : n % 64 = 63) (hlimit : n + 1 ≠ streamLimit) (b : Byte) :
    ∃ t, s.transact (pbyteWord b) = .next t ∧
      t.response = { data := b ^^^ streamByte K R n, dv := true, err := .ok } ∧ AtPosition K R (n + 1) t := by
  have hcur : s.CUR + 1 = 0 := h.wraps_iff.mpr hn
  have hov : ctrOverflows s.S = false := Bool.eq_false_iff.mpr (mt (h.overflows_iff hn).mp hlimit)
  refine ⟨_, (transact_pbyteWord b s).trans (execPbyte_of_next_block b h.valid h.live hcur hov), ?response, ?position⟩
  case response => rw [← h.cursorByte]; rfl
  case position =>
    have hctr : (ctrOf (incrCtr s.S)).toNat = (n + 1) / 64 := by
      have hlt := (ctrOf s.S).isLt
      rw [ctrOf_incrCtr_toNat, h.ctr]
      rw [h.ctr] at hlt
      unfold streamLimit at hlimit
      omega
    exact ⟨h.valid, h.live, h.rounds, h.key.trans (keyPartKept_incrCtr s.S), hctr, h.next_cur, rfl,
      ksgen_eq_keystream _ (roundsOk_of_ksgen h.block) _⟩

/-- Short of the limit a PBYTE gives the stream's byte and goes on to the next position (R191). -/
theorem AtPosition.transact_pbyte (hlimit : n + 1 < streamLimit) (b : Byte) :
    ∃ t, s.transact (pbyteWord b) = .next t ∧
      t.response = { data := b ^^^ streamByte K R n, dv := true, err := .ok } ∧ AtPosition K R (n + 1) t := by
  by_cases hn : n % 64 = 63
  · exact h.transact_boundary hn hlimit.ne b
  · exact h.transact_inside hn b

/-- The PBYTE that reaches the limit gives the stream's last byte and exhausts the session (R185, R192, R223). -/
theorem AtPosition.transact_last (hlimit : n + 1 = streamLimit) (b : Byte) :
    ∃ t, s.transact (pbyteWord b) = .next t ∧
      t.response = { data := b ^^^ streamByte K R n, dv := true, err := .nonceLimitExceeded } ∧
      t.phase = .exhausted ∧ t.CUR = 0 ∧ ctrOf t.S = 0 := by
  have hn : n % 64 = 63 := by
    unfold streamLimit at hlimit
    omega
  have hcur : s.CUR + 1 = 0 := h.wraps_iff.mpr hn
  have hov : ctrOverflows s.S = true := (h.overflows_iff hn).mpr hlimit
  refine ⟨_, (transact_pbyteWord b s).trans (execPbyte_of_overflow b h.valid h.live hcur hov), ?response,
    (phase_eq_exhausted_iff _).mpr ⟨h.valid, rfl⟩, hcur, ctrOf_incrCtr_of_overflows hov⟩
  case response => rw [← h.cursorByte]; rfl

end

/-- Settles O54, by induction on the bytes: each gives the stream's byte at its position. -/
theorem streamFollowsThePosition : Obligations.StreamFollowsThePosition := by
  unfold Obligations.StreamFollowsThePosition
  intro K R n s bs h hlimit
  induction bs generalizing n s with
  | nil => exact ⟨rfl, rfl, h⟩
  | cons b bs ih =>
    have hlen : n + (b :: bs).length = n + 1 + bs.length := by simp; omega
    rw [hlen] at hlimit ⊢
    obtain ⟨t, ht, hresp, hpos⟩ := h.transact_pbyte (by omega) b
    obtain ⟨hout, herr, hlast⟩ := ih (n + 1) t hpos hlimit
    rw [pbytes_cons_of_ok ht (congrArg Response.err hresp), hresp]
    exact ⟨congrArg (_ :: ·) hout, herr, hlast⟩

/-- Settles O55, by induction on the bytes: each before the last gives the stream's byte, the last exhausts the
session. -/
theorem streamStopsAtTheLimit : Obligations.StreamStopsAtTheLimit := by
  unfold Obligations.StreamStopsAtTheLimit
  intro K R n s bs h hn hlimit
  induction bs generalizing n s with
  | nil => exact absurd hn (not_lt.mpr hlimit)
  | cons b bs ih =>
    have hrest : streamLimit - n = streamLimit - (n + 1) + 1 := by omega
    rw [hrest, List.take_succ_cons]
    by_cases hlast : n + 1 = streamLimit
    · obtain ⟨t, ht, hresp, hphase, hcur, hctr⟩ := h.transact_last hlast b
      have herr : t.RSP_ERR = .nonceLimitExceeded := congrArg Response.err hresp
      rw [pbytes_cons_of_err ht (by rw [herr]; decide), hresp, hlast, Nat.sub_self, List.take_zero]
      exact ⟨rfl, herr, hphase, hcur, hctr⟩
    · obtain ⟨t, ht, hresp, hpos⟩ := h.transact_pbyte (by omega) b
      rw [List.length_cons] at hlimit
      obtain ⟨hout, hafter⟩ := ih (n + 1) t hpos (by omega) (by omega)
      rw [pbytes_cons_of_ok ht (congrArg Response.err hresp), hresp]
      exact ⟨congrArg (_ :: ·) hout, hafter⟩

/-! ### The start of the stream -/

theorem setup_err_ne_ok {k : BitVec 256} {kl : Byte} {n : BitVec 64} {nl : Byte} {e : ErrKind}
    (h : setup k kl n nl = .err e) : e ≠ .ok := by
  obtain ⟨-, -, e'⟩ | ⟨-, -, e'⟩ | ⟨-, -, e'⟩ | ⟨-, -, e'⟩ := setup_cases k kl n nl <;> cases e'.symm.trans h <;> decide

/-- An INIT that completes without error has State Setup's result and its block as the session (R182). -/
theorem execInit_ok {s t : State} (h : execInit s = .next t) (ht : t.RSP_ERR = .ok) :
    ∃ x b, setup s.latch.ops.keyIn s.latch.ops.keyLen s.latch.ops.nonceIn s.latch.ops.nonceLen = .ok x ∧
      ksgen x s.latch.ops.roundsIn = .ok b ∧
      t = ({ s.useGenerator x s.latch.ops.roundsIn with
        S := x, KS := b, RND := s.latch.ops.roundsIn, CUR := 0, EXH := false, VALID := true } : State).finishOk := by
  obtain ⟨e, hx, h'⟩ | ⟨x, e, -, hb, h'⟩ | ⟨x, b, hx, hb, h'⟩ := execInit_cases s <;> cases h'.symm.trans h
  · exact absurd ht (setup_err_ne_ok hx)
  · rw [State.raise_RSP_ERR, (ksgen_err_eq hb).1] at ht
    cases ht
  · exact ⟨x, b, hx, hb, rfl⟩

theorem execInit_atPosition {s t : State} (h : execInit s = .next t) (ht : t.RSP_ERR = .ok) :
    AtPosition t.S s.latch.ops.roundsIn 0 t := by
  obtain ⟨x, b, hx, hb, rfl⟩ := execInit_ok h ht
  obtain ⟨-, hctr⟩ := setup_ok hx
  exact ⟨rfl, rfl, rfl, .refl x, congrArg BitVec.toNat hctr, rfl, rfl, hb⟩

/-- Settles O53: State Setup and RESET set the counter to 0, and both commands the cursor. -/
theorem initAndResetStartTheStream : Obligations.InitAndResetStartTheStream := by
  unfold Obligations.InitAndResetStartTheStream
  refine ⟨fun s t h ht => execInit_atPosition h ht, fun s t hv hr h => ?reset⟩
  case reset =>
    cases (execReset_of_session hv).symm.trans h
    exact ⟨hv, rfl, rfl, keyPartKept_setCtr s.S 0, congrArg BitVec.toNat (ctrOf_setCtr s.S 0), rfl, rfl,
      ksgen_eq_keystream _ hr _⟩

/-! ### The first block -/

theorem length_cipherBytes (K : Words16) (R : Word) (n : Nat) (bs : List Byte) :
    (cipherBytes K R n bs).length = bs.length := by
  induction bs generalizing n with
  | nil => rfl
  | cons b bs ih => exact congrArg (· + 1) (ih (n + 1))

/-- The `i`-th byte of a message is enciphered with the stream's byte at position `n + i` (R191). -/
theorem getElem_cipherBytes (K : Words16) (R : Word) (n : Nat) (bs : List Byte) (i : Nat) (hi : i < bs.length) :
    (cipherBytes K R n bs)[i]'(by rwa [length_cipherBytes]) = bs[i] ^^^ streamByte K R (n + i) := by
  induction bs generalizing n i with
  | nil => cases hi
  | cons b bs ih =>
    cases i with
    | zero => rfl
    | succ i =>
      have hpos : n + (i + 1) = n + 1 + i := by omega
      rw [hpos]
      exact ih (n + 1) i (Nat.lt_of_succ_lt_succ hi)

/-- A block of zero bytes from the start of a stream is enciphered to the stream's first block (R193). -/
theorem AtPosition.cipherBytes_zeros {K : Words16} {R : Word} {s : State} (h : AtPosition K R 0 s) :
    cipherBytes K R 0 (List.replicate 64 0) = s.KS.toList := by
  apply List.ext_getElem
  · simp [length_cipherBytes]
  · intro i hi _
    have hi64 : i < 64 := by simpa [length_cipherBytes] using hi
    rw [getElem_cipherBytes K R 0 _ i (by simpa using hi64), List.getElem_replicate, Nat.zero_add,
      h.streamByte_eq (Nat.div_eq_of_lt hi64)]
    simp [Nat.mod_eq_of_lt hi64]

/-- Settles O56: the first 64 zero bytes of the stream that INIT starts are its block, and leave position 64. -/
theorem firstBlockLaw : Obligations.FirstBlockLaw := by
  unfold Obligations.FirstBlockLaw
  intro s t h ht
  have hstart := execInit_atPosition h ht
  obtain ⟨hout, herr, hpos⟩ := streamFollowsThePosition _ _ 0 t (List.replicate 64 0) hstart (by decide)
  exact ⟨hout.trans hstart.cipherBytes_zeros, herr, BitVec.eq_of_toNat_eq hpos.ctr, BitVec.eq_of_toNat_eq hpos.cur⟩

end Sys2Proof.Machine
end

section
/-! Two runs of PBYTES on one set of session registers: decryption is encryption (45_stream_cipher.md R190), and RESET
reproduces the stream (R196). -/

namespace Sys2Proof.Machine

/-! ### PBYTE on two sessions with the same registers -/

/-- What two PBYTEs of the bytes `b` and `c` answer alike: both refuse with one error, or both return their byte
exclusive-ored with the keystream byte `k`, with one error code. -/
def BytesAlike (k b c : Byte) (p q : Response) : Prop :=
  (∃ e, e ≠ .ok ∧ p = { data := 0x00, dv := false, err := e } ∧ q = { data := 0x00, dv := false, err := e }) ∨
  (∃ e, p = { data := b ^^^ k, dv := true, err := e } ∧ q = { data := c ^^^ k, dv := true, err := e })

section
variable {s t : State} (k : SessionKept s t)
include k

theorem SessionKept.cursorByte : t.KS[t.CUR.toNat] = s.KS[s.CUR.toNat] := by
  simp only [k.KS, k.CUR]

theorem SessionKept.next_cur : t.CUR + 1 = s.CUR + 1 := congrArg (· + 1) k.CUR

/-- On two sessions with the same registers PBYTE answers alike and leaves the same registers, whatever the two bytes
(R184 to R186). -/
theorem SessionKept.execPbyte_alike (hr : roundsOk s.RND = true) (b c : Byte) :
    ∃ s' t', execPbyte b s = .next s' ∧ execPbyte c t = .next t' ∧ SessionKept s' t' ∧ s'.RND = s.RND ∧
      BytesAlike s.KS[s.CUR.toNat] b c s'.response t'.response := by
  rw [← k.cursorByte]
  obtain ⟨hv, hs⟩ | ⟨hv, he, hs⟩ | ⟨hv, he, hc, hs⟩ | ⟨hv, he, hc, -⟩ := execPbyte_cases b s <;>
    have hv' := k.VALID.trans hv
  · exact ⟨_, _, hs, execPbyte_of_no_session c hv', ⟨k.S, k.KS, k.CUR, k.RND, k.VALID, k.EXH⟩, rfl,
      .inl ⟨_, ErrKind.noConfusion, rfl, rfl⟩⟩
  · exact ⟨_, _, hs, execPbyte_of_exhausted c hv' (k.EXH.trans he), ⟨k.S, k.KS, k.CUR, k.RND, k.VALID, k.EXH⟩, rfl,
      .inl ⟨_, ErrKind.noConfusion, rfl, rfl⟩⟩
  · rw [← k.cursorByte] at hs
    exact ⟨_, _, hs, execPbyte_of_inside c hv' (k.EXH.trans he) (k.next_cur ▸ hc),
      ⟨k.S, k.KS, k.next_cur, k.RND, k.VALID, k.EXH⟩, rfl, .inr ⟨_, rfl, rfl⟩⟩
  · have he' := k.EXH.trans he
    have hc' := k.next_cur.trans hc
    have hS : incrCtr t.S = incrCtr s.S := congrArg incrCtr k.S
    cases hov : ctrOverflows s.S
    · have hs := execPbyte_of_next_block b hv he hc hov
      rw [← k.cursorByte] at hs
      have hKS : keystream (incrCtr t.S) t.RND t.draws = keystream (incrCtr s.S) s.RND s.draws := by
        rw [hS, k.RND, keystream_draw_irrel _ hr]
      exact ⟨_, _, hs, execPbyte_of_next_block c hv' he' hc' (k.S ▸ hov),
        ⟨hS, hKS, k.next_cur, k.RND, k.VALID, k.EXH⟩, rfl, .inr ⟨_, rfl, rfl⟩⟩
    · have hs := execPbyte_of_overflow b hv he hc hov
      rw [← k.cursorByte] at hs
      exact ⟨_, _, hs, execPbyte_of_overflow c hv' he' hc' (k.S ▸ hov),
        ⟨hS, k.KS, k.next_cur, k.RND, k.VALID, rfl⟩, rfl, .inr ⟨_, rfl, rfl⟩⟩

/-- The same of the host's transactions: acceptance writes no session register (R256). -/
theorem SessionKept.transact_pbyte_alike (hr : roundsOk s.RND = true) (b c : Byte) :
    ∃ s' t', s.transact (pbyteWord b) = .next s' ∧ t.transact (pbyteWord c) = .next t' ∧ SessionKept s' t' ∧
      s'.RND = s.RND ∧ BytesAlike s.KS[s.CUR.toNat] b c s'.response t'.response := by
  have accepted : SessionKept (s.accept (pbyteWord b)) (t.accept (pbyteWord c)) :=
    ⟨k.S, k.KS, k.CUR, k.RND, k.VALID, k.EXH⟩
  rw [transact_pbyteWord, transact_pbyteWord]
  exact accepted.execPbyte_alike hr b c

end

/-! ### The output of two runs -/

/-- A byte that is refused ends the output. -/
theorem pbytes_out_of_refused {b : Byte} {s t : State} {e : ErrKind} (h : s.transact (pbyteWord b) = .next t)
    (he : e ≠ .ok) (hresp : t.response = { data := 0x00, dv := false, err := e }) (bs : List Byte) :
    (pbytes (b :: bs) s).out = [] := by
  have herr : t.RSP_ERR = e := congrArg Response.err hresp
  rw [pbytes_cons_of_err h (herr ▸ he), hresp]
  rfl

/-- A byte that comes out is followed by the output of the rest if it came without error. -/
theorem pbytes_out_of_byte {b d : Byte} {s t : State} {e : ErrKind} (h : s.transact (pbyteWord b) = .next t)
    (hresp : t.response = { data := d, dv := true, err := e }) (bs : List Byte) :
    (pbytes (b :: bs) s).out = d :: if e = .ok then (pbytes bs t).out else [] := by
  have herr : t.RSP_ERR = e := congrArg Response.err hresp
  by_cases he : e = .ok
  · rw [pbytes_cons_of_ok h (herr.trans he), hresp, if_pos he]
    rfl
  · rw [pbytes_cons_of_err h (herr ▸ he), hresp, if_neg he]
    rfl

/-- On sessions with the same registers the keystream byte that enciphered a byte deciphers it, as far as bytes came
out (R190). -/
theorem SessionKept.pbytes_decrypts {s t : State} (k : SessionKept s t) (hr : roundsOk s.RND = true) (m : List Byte) :
    (pbytes (pbytes m s).out t).out = m.take (pbytes m s).out.length := by
  induction m generalizing s t with
  | nil => rfl
  | cons b m ih =>
    obtain ⟨s', t', hs, ht, k', hR, ⟨e, he, hps, -⟩ | ⟨e, hps, hpt⟩⟩ :=
      k.transact_pbyte_alike hr b (b ^^^ s.KS[s.CUR.toNat])
    · rw [pbytes_out_of_refused hs he hps]
      rfl
    · rw [BitVec.xor_assoc, BitVec.xor_self, BitVec.xor_zero] at hpt
      rw [pbytes_out_of_byte hs hps, pbytes_out_of_byte ht hpt, List.length_cons, List.take_succ_cons]
      by_cases he : e = .ok
      · rw [if_pos he, if_pos he, ih k' (hR ▸ hr)]
      · rw [if_neg he, if_neg he]
        rfl

/-- Settles O57, by `SessionKept.pbytes_decrypts`, the induction on the message; that the port is free is not needed. -/
theorem decryptionIsEncryption : Obligations.DecryptionIsEncryption := by
  unfold Obligations.DecryptionIsEncryption
  intro s t m k _ _ hr
  exact k.pbytes_decrypts hr m

/-- The same bytes come out of two sessions with the same registers. -/
theorem SessionKept.pbytes_out {s t : State} (k : SessionKept s t) (hr : roundsOk s.RND = true) (bs : List Byte) :
    (pbytes bs t).out = (pbytes bs s).out := by
  induction bs generalizing s t with
  | nil => rfl
  | cons b bs ih =>
    obtain ⟨s', t', hs, ht, k', hR, ⟨e, he, hps, hpt⟩ | ⟨e, hps, hpt⟩⟩ := k.transact_pbyte_alike hr b b
    · rw [pbytes_out_of_refused hs he hps, pbytes_out_of_refused ht he hpt]
    · rw [pbytes_out_of_byte hs hps, pbytes_out_of_byte ht hpt, ih k' (hR ▸ hr)]

/-! ### RESET after any bytes -/

/-- What PBYTE keeps of a session, and PBYTES with it: the session, its key part and its round count; and its completion
leaves the port free. -/
structure SameStream (s t : State) : Prop where
  valid : t.VALID = s.VALID
  rounds : t.RND = s.RND
  key : KeyPartKept s.S t.S
  free : t.BUSY = false

/-- A PBYTE writes neither `VALID` nor `RND` (R184 to R186). -/
theorem execPbyte_VALID_RND {din : Byte} {s t : State} (h : execPbyte din s = .next t) :
    t.VALID = s.VALID ∧ t.RND = s.RND := by
  obtain ⟨-, h'⟩ | ⟨-, -, h'⟩ | ⟨-, -, -, h'⟩ | ⟨-, -, -, h'⟩ := execPbyte_cases din s <;> cases h'.symm.trans h
  case inr.inr.inr =>
    obtain ⟨-, e⟩ | ⟨-, e⟩ := boundary_cases (din ^^^ s.KS[s.CUR.toNat]) { s with CUR := s.CUR + 1 } <;> rw [e] <;>
      exact ⟨rfl, rfl⟩
  all_goals exact ⟨rfl, rfl⟩

/-- A PBYTE of the host stays on the session's stream and leaves the port free (R22, R184). -/
theorem sameStream_of_transact_pbyte {b : Byte} {s t : State} (h : s.transact (pbyteWord b) = .next t) :
    SameStream s t := by
  rw [transact_pbyteWord] at h
  obtain ⟨hvalid, hrounds⟩ := execPbyte_VALID_RND h
  obtain ⟨hfree, -⟩ := exec_command_completes (i := .pbyte b) rfl h
  exact ⟨hvalid, hrounds, exec_keyPartKept (s := s.accept (pbyteWord b)) (i := .pbyte b) nofun nofun h, hfree⟩

theorem SameStream.trans {s t u : State} (h : SameStream s t) (g : SameStream t u) : SameStream s u :=
  ⟨g.valid.trans h.valid, g.rounds.trans h.rounds, h.key.trans g.key, g.free⟩

/-- Any bytes leave the session of the same stream. -/
theorem sameStream_pbytes {s : State} (hfree : s.BUSY = false) (bs : List Byte) : SameStream s (pbytes bs s).state := by
  induction bs generalizing s with
  | nil => exact ⟨rfl, rfl, .refl s.S, hfree⟩
  | cons b bs ih =>
    obtain ⟨t, ht⟩ := completeInFlight_next (s.accept (pbyteWord b))
    have hst : SameStream s t := sameStream_of_transact_pbyte ht
    by_cases he : t.RSP_ERR = .ok
    · rw [pbytes_cons_of_ok ht he]
      exact hst.trans (ih hst.free)
    · rw [pbytes_cons_of_err ht he]
      exact hst

theorem phase_eq_fresh_iff (s : State) : s.phase = .fresh ↔ s.VALID = true ∧ s.EXH = false ∧ s.CUR = 0 := by
  unfold State.phase
  cases s.VALID with
  | false => simp
  | true =>
    cases s.EXH with
    | true => simp
    | false => by_cases hc : s.CUR = 0#6 <;> simp [hc]

/-- A session restarted on the stream of one that stood at counter 0 and cursor 0 has that one's registers (R196). -/
theorem SameStream.restartAt_zero {s u : State} (h : SameStream s u) (he : s.EXH = false) (hcur : s.CUR = 0)
    (hctr : ctrOf s.S = 0) (hblock : ksgen s.S s.RND = .ok s.KS) :
    SessionKept s (u.restartAt 0).finishOk := by
  have hS : setCtr u.S 0 = s.S := by
    rw [setCtr_setCtr_of_key h.key, ← hctr, setCtr_eq_of_key (.refl s.S)]
  have hKS : keystream (setCtr u.S 0) u.RND u.draws = s.KS := by
    rw [hS, h.rounds, keystream_eq_of_ksgen hblock]
  exact ⟨hS, hKS, hcur.symm, h.rounds, h.valid, he.symm⟩

/-- Settles O58: any bytes leave the session on its stream, RESET takes it back to the start of that stream, and the same
registers give the same bytes. -/
theorem resetReproducesTheStream : Obligations.ResetReproducesTheStream := by
  unfold Obligations.ResetReproducesTheStream
  intro s bs cs hinv hfree hfresh hctr
  obtain ⟨hv, he, hcur⟩ := (phase_eq_fresh_iff s).mp hfresh
  obtain ⟨hr, -⟩ := hinv.live hv
  have same : SameStream s (pbytes bs s).state := sameStream_pbytes hfree bs
  have kept := same.restartAt_zero he hcur hctr (hinv.block hv he)
  exact ⟨same.free, _, execReset_of_session (same.valid.trans hv), kept, rfl, kept.pbytes_out hr cs⟩

end Sys2Proof.Machine
end

section
/-! Errors as answers (60_exceptions.md R224 to R230): every step has a next state, an illegal word only answers, and
which commands answer NoSession. -/

namespace Sys2Proof.Machine

/-! ### Every step answers -/

theorem settle_next (s : State) : ∃ t, s.settle = .next t := by
  unfold State.settle
  split
  · exact completeInFlight_next _
  · exact ⟨_, rfl⟩

theorem present_next (w : BitVec 32) (s again : State) : ∃ t, s.present w again = .next t := by
  unfold State.present
  split
  · exact settle_next again
  · exact completeInFlight_next (s.accept w)

theorem presentAccept_next (w : BitVec 32) (s again : State) : ∃ t, s.presentAccept w again = .next t := by
  unfold State.presentAccept
  split
  · exact settle_next again
  · exact ⟨_, rfl⟩

theorem perform_next (i : Instr) (s again : State) : ∃ t, s.perform i again = .next t := by
  unfold State.perform
  split
  · exact present_next _ s again
  · exact exec_next i _

/-- Every move of the host answers a next state. -/
theorem move_next (m : HostMove) (s again : State) : ∃ t, s.move m again = .next t := by
  cases m with
  | issue w => exact present_next w s again
  | accept w => exact presentAccept_next w s again
  | op i => exact perform_next i s again
  | wait => exact settle_next s
  | drive | peStart | kgStart | idle | rst => exact ⟨_, rfl⟩

/-- Settles O13: no operation faults or is refused, and a step is one move of the host or, with none left, a wait. -/
theorem everyStepAnswersNext : Obligations.EveryStepAnswersNext := by
  unfold Obligations.EveryStepAnswersNext
  intro s
  unfold step
  split
  · exact settle_next s
  · exact move_next _ _ s

/-! ### Illegal words -/

/-- An illegal word in flight completes with IllegalCommand (R194, R226). -/
theorem completeInFlight_of_illegal {s : State} {why : Illegal} (h : decode s.latch.cmd = .illegal why) :
    s.completeInFlight = .next (s.raise .illegalCommand) := by
  unfold State.completeInFlight
  rw [h]
  rfl

/-- The transaction of a word that matches no row, or of SETCTR's word without the hook, raises IllegalCommand on the
accepted state (R74, R226). -/
theorem transact_of_illegal {w : BitVec 32} {s : State}
    (h : (∃ why, decode w = .illegal why) ∨ (w = 0x00000005 ∧ s.cfg.hasTestHook = false)) :
    s.transact w = .next ((s.accept w).raise .illegalCommand) := by
  obtain ⟨why, hd⟩ | ⟨rfl, hhook⟩ := h
  · exact completeInFlight_of_illegal (s := s.accept w) hd
  · rw [transact_of_decode (decode_encode (i := .setctr) rfl)]
    exact execSetctr_of_no_hook (s := s.accept 0x00000005) hhook

/-- Settles O16: the transaction is an acceptance, which makes the copy of the word and lets the pulses fall, and a
completion, which writes the response. -/
theorem illegalWordOnlyResponds : Obligations.IllegalWordOnlyResponds := by
  unfold Obligations.IllegalWordOnlyResponds
  intro s w rest hh hb hw
  exact ⟨_, (step_of_issue_of_free hh hb).trans (transact_of_illegal hw), responded_complete _ _ _ _,
    ⟨rfl, rfl, rfl, rfl, rfl, rfl⟩, ⟨rfl, rfl⟩, rfl, rfl, rfl, rfl⟩

/-! ### The errors of INIT -/

/-- The key length is checked first (R141, R225). -/
theorem setup_of_keyLen {kl : Byte} (h16 : kl ≠ 16) (h32 : kl ≠ 32) (k : BitVec 256) (n : BitVec 64) (nl : Byte) :
    setup k kl n nl = .err .invalidKeyLength := by
  obtain ⟨-, -, h⟩ | ⟨hk, -⟩ | ⟨hk, -⟩ | ⟨hk, -⟩ := setup_cases k kl n nl
  · exact h
  · exact absurd hk (not_or.mpr ⟨h16, h32⟩)
  · exact absurd hk h32
  · exact absurd hk h16

/-- The nonce length is checked after a valid key length (R142, R225). -/
theorem setup_of_nonceLen {kl nl : Byte} (hk : kl = 16 ∨ kl = 32) (hn : nl ≠ 8) (k : BitVec 256) (n : BitVec 64) :
    setup k kl n nl = .err .invalidNonceLength := by
  obtain ⟨h16, h32, -⟩ | ⟨-, -, h⟩ | ⟨-, hn', -⟩ | ⟨-, hn', -⟩ := setup_cases k kl n nl
  · exact absurd hk (not_or.mpr ⟨h16, h32⟩)
  · exact h
  · exact absurd hn' hn
  · exact absurd hn' hn

/-- The only errors of State Setup. -/
theorem setup_err_eq {k : BitVec 256} {kl : Byte} {n : BitVec 64} {nl : Byte} {e : ErrKind}
    (h : setup k kl n nl = .err e) : e = .invalidKeyLength ∨ e = .invalidNonceLength := by
  obtain ⟨-, -, h'⟩ | ⟨-, -, h'⟩ | ⟨-, -, h'⟩ | ⟨-, -, h'⟩ := setup_cases k kl n nl <;> cases h'.symm.trans h
  · exact .inl rfl
  · exact .inr rfl

/-- INIT ends without error or with one of its own three (R222, R225). -/
theorem execInit_RSP_ERR {s t : State} (h : execInit s = .next t) :
    t.RSP_ERR = .ok ∨ t.RSP_ERR = .invalidKeyLength ∨ t.RSP_ERR = .invalidNonceLength ∨
      t.RSP_ERR = .invalidRoundCount := by
  obtain ⟨e, hx, h'⟩ | ⟨x, e, -, hb, h'⟩ | ⟨x, b, -, -, h'⟩ := execInit_cases s <;> cases h'.symm.trans h
  · obtain rfl | rfl := setup_err_eq hx
    · exact .inr (.inl rfl)
    · exact .inr (.inr (.inl rfl))
  · obtain ⟨rfl, -⟩ := ksgen_err_eq hb
    exact .inr (.inr (.inr rfl))
  · exact .inl rfl

/-- INIT with the first of its errors in the order of R225 zeroizes a state that differs from the one before in the
core's own registers alone, and raises that error (R183, R222). -/
theorem execInit_of_first_error {s : State} {e : ErrKind}
    (h : if s.latch.ops.keyLen ≠ 16 ∧ s.latch.ops.keyLen ≠ 32 then e = .invalidKeyLength
      else if s.latch.ops.nonceLen ≠ 8 then e = .invalidNonceLength
      else (s.latch.ops.roundsIn = 0 ∨ s.latch.ops.roundsIn.toNat % 2 = 1) ∧ e = .invalidRoundCount) :
    ∃ a, OutsideKept s a ∧ execInit s = .next (a.zeroize.raise e) := by
  split_ifs at h with hkey hnonce
  · subst h
    obtain ⟨h16, h32⟩ := hkey
    exact ⟨s, ⟨rfl, rfl, rfl, rfl⟩, execInit_of_setup_err (setup_of_keyLen h16 h32 _ _ _)⟩
  · subst h
    have hx := setup_of_nonceLen (or_iff_not_and_not.mpr hkey) hnonce s.latch.ops.keyIn s.latch.ops.nonceIn
    exact ⟨s, ⟨rfl, rfl, rfl, rfl⟩, execInit_of_setup_err hx⟩
  · obtain ⟨hrounds, rfl⟩ := h
    obtain ⟨x, hx⟩ := setup_ok_of_lengths s.latch.ops.keyIn s.latch.ops.nonceIn (or_iff_not_and_not.mpr hkey)
      (not_not.mp hnonce)
    have hb := ksgen_of_not_roundsOk x ((roundsOk_false_iff _).mpr hrounds)
    exact ⟨s.useGenerator x s.latch.ops.roundsIn, ⟨rfl, rfl, rfl, rfl⟩, execInit_of_ksgen_err hx hb⟩

/-- Settles O19: the first error is raised on a zeroized state. -/
theorem failedInitLeavesNoSession : Obligations.FailedInitLeavesNoSession := by
  unfold Obligations.FailedInitLeavesNoSession
  intro s e h
  obtain ⟨a, outside, hexec⟩ := execInit_of_first_error h
  exact ⟨_, hexec, responded_complete _ _ _ _, rfl, getElem_zeroWords, getElem_zeroBlock, rfl, rfl, rfl, rfl,
    ⟨outside.cfg, outside.pins, outside.host, outside.bench⟩⟩

/-! ### NoSession -/

/-- Settles O25: without a session the three commands only raise; NOP and WIPE complete without error, and NoSession is
none of INIT's errors. -/
theorem commandsThatNeedASession : Obligations.CommandsThatNeedASession := by
  unfold Obligations.CommandsThatNeedASession
  constructor
  · rintro s i hv (⟨din, rfl⟩ | rfl | ⟨rfl, hhook⟩)
    · exact exec_onlyResponds (i := .pbyte din) (execPbyte_of_no_session din hv)
    · exact exec_onlyResponds (i := .reset) (execReset_of_no_session hv)
    · exact exec_onlyResponds (i := .setctr) (execSetctr_of_no_session hhook hv)
  · rintro s t i (rfl | rfl | rfl) h
    case inl =>
      cases h
      exact nofun
    case inr.inl => obtain e | e | e | e := execInit_RSP_ERR h <;> rw [e] <;> decide
    case inr.inr =>
      cases h
      exact nofun

end Sys2Proof.Machine
end

section
/-! Steps without a completion (60_exceptions.md R238; 70 R254, R255, R261): the core holds its registers. -/

namespace Sys2Proof.Machine

/-! ### Frames -/

/-- A step that writes only the host's side, the port's copy and pulses, and the modules at their own ports holds the
core's registers (R238, R255). -/
theorem step_holds {s : State} {p : Operands} {l : List HostMove} {q : Request} {busy pulse : Bool} {b : Bench} {n : Nat}
    (h : step s = .next
      { s with pins := p, host := l, latch := q, BUSY := busy, rspValid := pulse, bench := b, draws := n }) :
    ∃ t, step s = .next t ∧ SessionKept s t ∧ t.kg = s.kg ∧ t.response = s.response ∧ t.LAST_ERR = s.LAST_ERR ∧
      t.cfg = s.cfg :=
  ⟨_, h, ⟨rfl, rfl, rfl, rfl, rfl, rfl⟩, rfl, rfl, rfl, rfl⟩

theorem endPe_frame (s : State) : ∃ b n, s.endPe = { s with bench := b, draws := n } := by
  unfold State.endPe
  split
  · exact ⟨_, _, rfl⟩
  · exact ⟨s.bench, s.draws, rfl⟩

theorem endKg_frame (s : State) : ∃ b n, s.endKg = { s with bench := b, draws := n } := by
  unfold State.endKg
  split
  · exact ⟨_, _, rfl⟩
  · exact ⟨s.bench, s.draws, rfl⟩

/-- The ends of the operations at the modules' own ports touch those modules alone (log entry 6). -/
theorem endPe_endKg_frame (s : State) : ∃ b n, s.endPe.endKg = { s with bench := b, draws := n } := by
  obtain ⟨b, n, hpe⟩ := endPe_frame s
  obtain ⟨b', n', hkg⟩ := endKg_frame s.endPe
  exact ⟨b', n', by rw [hkg, hpe]⟩

/-! ### The host's moves as steps -/

/-- With no move left and no command in flight the step ends the operations at the modules' own ports (R238). -/
theorem step_of_nil_of_free {s : State} (hh : s.host = []) (hb : s.BUSY = false) :
    step s = .next s.dropPulses.endPe.endKg := by
  unfold step
  rw [hh]
  simp [State.settle, hb]

/-- The step of a host that presents a word on a free port for one edge is its acceptance (R253). -/
theorem step_of_accept_of_free {s : State} {w : BitVec 32} {rest : List HostMove} (hh : s.host = .accept w :: rest)
    (hb : s.BUSY = false) : step s = .next (({ s with host := rest } : State).accept w) := by
  unfold step
  rw [hh]
  simp [State.move, State.presentAccept, hb]

/-- The step of a host that drives the operand ports. -/
theorem step_of_drive {s : State} {p : Operands} {rest : List HostMove} (hh : s.host = .drive p :: rest) :
    step s = .next { s with host := rest, pins := p } := by
  unfold step
  rw [hh]
  rfl

/-- The step of a host that starts the generator at its own ports (R166). -/
theorem step_of_kgStart {s : State} {x : Words16} {R : Word} {rest : List HostMove}
    (hh : s.host = .kgStart x R :: rest) :
    step s = .next (({ s with host := rest } : State).dropPulses.kgStart x R) := by
  unfold step
  rw [hh]
  rfl

/-- The step of a host that performs a PORT operation runs it at its module's ports (R84). -/
theorem step_of_port_op {s : State} {i : Instr} (hi : i.isPort = true) {rest : List HostMove}
    (hh : s.host = .op i :: rest) : step s = exec i ({ s with host := rest } : State).dropPulses :=
  (step_of_op hh).trans (perform_of_isPort hi _ s)

/-- Settles O60: each of these steps is an edge, driven ports or an operation at the modules' own ports, and none of them
completes a command. -/
theorem stepsWithoutACompletionHold : Obligations.StepsWithoutACompletionHold := by
  unfold Obligations.StepsWithoutACompletionHold
  simp only [List.head?_eq_some_iff]
  rintro s (⟨hb, hh | ⟨rest, hh⟩ | ⟨w, rest, hh⟩⟩ | ⟨rest, hh⟩ | ⟨p, rest, hh⟩ | ⟨x, R, ⟨rest, hh⟩ | ⟨rest, hh⟩⟩ |
    ⟨i, ⟨rest, hh⟩, hi⟩)
  · obtain ⟨b, n, hend⟩ := endPe_endKg_frame s.dropPulses
    exact step_holds ((step_of_nil_of_free hh hb).trans (congrArg _ hend))
  · obtain ⟨b, n, hend⟩ := endPe_endKg_frame ({ s with host := rest } : State).dropPulses
    exact step_holds ((step_of_wait_of_free hh hb).trans (congrArg _ hend))
  · exact step_holds (step_of_accept_of_free hh hb)
  · exact step_holds (l := rest) (step_of_idle hh)
  · exact step_holds (step_of_drive hh)
  · exact step_holds (step_of_peStart hh)
  · exact step_holds (step_of_kgStart hh)
  · obtain ⟨b, n, hport⟩ := exec_port_frame hi ({ s with host := rest } : State).dropPulses
    exact step_holds ((step_of_port_op hi hh).trans hport)

end Sys2Proof.Machine
end

section
/-! The command port (70 R253 to R260): acceptance, the operands copied there, the busy port, and a transaction edge by
edge. -/

namespace Sys2Proof.Machine

/-! ### The host's moves as steps -/

theorem step_of_nil {s : State} (hh : s.host = []) : step s = s.settle := by
  unfold step
  rw [hh]

/-- The step of a host with a move left makes that move. -/
theorem step_of_cons {s : State} {m : HostMove} {rest : List HostMove} (hh : s.host = m :: rest) :
    step s = ({ s with host := rest } : State).move m s := by
  unfold step
  rw [hh]

/-- With a command in flight, everything in flight ends (R254). -/
theorem settle_of_busy {s : State} (hb : s.BUSY = true) :
    s.settle = s.dropPulses.endPe.endKg.completeInFlight := by
  simp [State.settle, hb]

/-- On a busy port the word presented is not accepted (R253, R254). -/
theorem present_of_busy {s : State} (hb : s.BUSY = true) (w : BitVec 32) (again : State) :
    s.present w again = again.settle := by
  simp [State.present, hb]

theorem presentAccept_of_busy {s : State} (hb : s.BUSY = true) (w : BitVec 32) (again : State) :
    s.presentAccept w again = again.settle := by
  simp [State.presentAccept, hb]

/-- The step that presents a word on a busy port is the wait for the command in flight (R254). -/
theorem step_presenting_of_busy {s : State} {w : BitVec 32} {rest : List HostMove}
    (hh : s.host = .issue w :: rest ∨ s.host = .accept w :: rest) (hb : s.BUSY = true) : step s = s.settle := by
  obtain hh | hh := hh
  · exact (step_of_issue hh).trans (present_of_busy (s := { s with host := rest }) hb w s)
  · exact (step_of_cons hh).trans (presentAccept_of_busy (s := { s with host := rest }) hb w s)

/-! ### Acceptance and the busy port -/

/-- Settles O7: the step is the acceptance, which writes the copy, `BUSY` and the pulses. -/
theorem acceptanceSamplesTheOperands : Obligations.AcceptanceSamplesTheOperands := by
  unfold Obligations.AcceptanceSamplesTheOperands
  intro s w rest hh hb
  exact ⟨_, step_of_accept_of_free hh hb, rfl, rfl, ⟨rfl, rfl, rfl, rfl, rfl, rfl⟩, ⟨rfl, rfl⟩, rfl, rfl, rfl, rfl,
    rfl, rfl, rfl⟩

/-- Settles O9: the step is the wait, and the ends of the modules' operations leave the copy of the word. -/
theorem busyPortCompletesFirst : Obligations.BusyPortCompletesFirst := by
  unfold Obligations.BusyPortCompletesFirst
  intro s w rest hh hb
  have hstep : step s = s.dropPulses.endPe.endKg.completeInFlight :=
    (step_presenting_of_busy hh hb).trans (settle_of_busy hb)
  have hlatch : s.dropPulses.endPe.endKg.latch = s.latch := by simp
  refine ⟨by simp [State.cmdReady, hb], fun i hd => ?legal, fun why hd => ?illegal, fun hpe hkg => ?idle⟩
  case legal => exact hstep.trans (completeInFlight_of_decode (hlatch ▸ hd))
  case illegal => exact hstep.trans (completeInFlight_of_illegal (hlatch ▸ hd))
  case idle => exact endPe_endKg_of_idle (s := s.dropPulses) hpe hkg

/-! ### Operands driven after acceptance -/

/-- The operand ports have no effect on the operation, which hands them on as they are (R256). -/
def IgnoresPins (f : State → Host.Outcome State Fault Refusal) : Prop :=
  ∀ (s : State) (p : Operands), ∃ t, f s = .next t ∧ f { s with pins := p } = .next { t with pins := p }

theorem execInit_ignoresPins : IgnoresPins execInit := by
  intro s p
  obtain ⟨e, hs, h⟩ | ⟨x, e, hs, hk, h⟩ | ⟨x, b, hs, hk, h⟩ := execInit_cases s
  · exact ⟨_, h, execInit_of_setup_err (s := { s with pins := p }) hs⟩
  · exact ⟨_, h, execInit_of_ksgen_err (s := { s with pins := p }) hs hk⟩
  · exact ⟨_, h, execInit_of_ksgen_ok (s := { s with pins := p }) hs hk⟩

theorem boundary_with_pins (d : Byte) (s : State) (p : Operands) :
    ({ s with pins := p } : State).boundary d = { s.boundary d with pins := p } := by
  obtain ⟨ho, h⟩ | ⟨ho, h⟩ := boundary_cases d s
  · rw [h]
    exact State.boundary_of_overflows d (s := { s with pins := p }) ho
  · rw [h]
    exact State.boundary_of_not_overflows d (s := { s with pins := p }) ho

theorem execPbyte_ignoresPins (din : Byte) : IgnoresPins (execPbyte din) := by
  intro s p
  obtain ⟨hv, h⟩ | ⟨hv, he, h⟩ | ⟨hv, he, hc, h⟩ | ⟨hv, he, hc, h⟩ := execPbyte_cases din s
  · exact ⟨_, h, execPbyte_of_no_session din (s := { s with pins := p }) hv⟩
  · exact ⟨_, h, execPbyte_of_exhausted din (s := { s with pins := p }) hv he⟩
  · exact ⟨_, h, execPbyte_of_inside din (s := { s with pins := p }) hv he hc⟩
  · refine ⟨_, h, (execPbyte_of_boundary din (s := { s with pins := p }) hv he hc).trans ?_⟩
    exact congrArg _ (boundary_with_pins _ { s with CUR := s.CUR + 1 } p)

theorem execReset_ignoresPins : IgnoresPins execReset := by
  intro s p
  obtain ⟨hv, h⟩ | ⟨hv, h⟩ := execReset_cases s
  · exact ⟨_, h, execReset_of_no_session (s := { s with pins := p }) hv⟩
  · exact ⟨_, h, execReset_of_session (s := { s with pins := p }) hv⟩

theorem execSetctr_ignoresPins : IgnoresPins execSetctr := by
  intro s p
  obtain ⟨hh, h⟩ | ⟨hh, hv, h⟩ | ⟨hh, hv, h⟩ := execSetctr_cases s
  · exact ⟨_, h, execSetctr_of_no_hook (s := { s with pins := p }) hh⟩
  · exact ⟨_, h, execSetctr_of_no_session (s := { s with pins := p }) hh hv⟩
  · exact ⟨_, h, execSetctr_of_session (s := { s with pins := p }) hh hv⟩

/-- Settles O8: every command reads its operands from the copy. -/
theorem laterOperandsHaveNoEffect : Obligations.LaterOperandsHaveNoEffect := by
  unfold Obligations.LaterOperandsHaveNoEffect
  intro s p i hi
  cases i with
  | nop => exact ⟨_, rfl, rfl⟩
  | init => exact execInit_ignoresPins s p
  | pbyte din => exact execPbyte_ignoresPins din s p
  | reset => exact execReset_ignoresPins s p
  | wipe => exact ⟨_, rfl, rfl⟩
  | setctr => exact execSetctr_ignoresPins s p
  | mix | qround | colround | rowround | dround | permute | setup | ksgen => cases hi

/-! ### A transaction edge by edge -/

theorem run_succ_of_step {s t : State} (h : step s = .next t) (k : Nat) :
    Sys2Proof.core.run (k + 1) s = Sys2Proof.core.run k t := by
  have h' : Sys2Proof.core.step s = .next t := h
  simp only [Host.Core.run, h']

theorem run_one (s : State) : Sys2Proof.core.run 1 s = step s := by
  obtain ⟨t, h⟩ := everyStepAnswersNext s
  rw [h]
  exact run_succ_of_step h 0

/-- Once the pulses have fallen, idle edges hold the state (R238, R254). -/
theorem run_idles {a : State} (ha : a.dropPulses = a) (n k : Nat) (l : List HostMove) :
    Sys2Proof.core.run (n + k) { a with host := List.replicate n HostMove.idle ++ l } =
      Sys2Proof.core.run k { a with host := l } := by
  induction n with
  | zero => rw [Nat.zero_add]; rfl
  | succ n ih =>
    have edge : step { a with host := .idle :: (List.replicate n HostMove.idle ++ l) } =
        .next { a.dropPulses with host := List.replicate n HostMove.idle ++ l } :=
      step_of_idle (s := { a with host := .idle :: (List.replicate n HostMove.idle ++ l) }) rfl
    rw [ha] at edge
    rw [Nat.succ_add, List.replicate_succ, List.cons_append, run_succ_of_step edge, ih]

/-- With the modules at rest, the wait lets the pulses fall and completes the command in flight (R254). -/
theorem step_of_wait_of_busy {a : State} {rest : List HostMove} (hh : a.host = .wait :: rest) (hb : a.BUSY = true)
    (hpe : a.bench.pe.busy = false) (hkg : a.bench.kg.busy = false) :
    step a = ({ a with host := rest } : State).dropPulses.completeInFlight := by
  have hend := endPe_endKg_of_idle (s := ({ a with host := rest } : State).dropPulses) hpe hkg
  rw [step_of_cons hh]
  exact (settle_of_busy (s := { a with host := rest }) hb).trans (congrArg State.completeInFlight hend)

/-- Settles O10: the accepting edge leaves no pulse up, so the idle edges after it hold the state, and the wait is the
completion that ends the transaction. -/
theorem latencyDoesNotShow : Obligations.LatencyDoesNotShow := by
  unfold Obligations.LatencyDoesNotShow
  intro s w rest n hb hpe hkg
  have accepting : step { s with host := .accept w :: (List.replicate n HostMove.idle ++ .wait :: rest) } =
      .next { s.accept w with host := List.replicate n HostMove.idle ++ .wait :: rest } :=
    step_of_accept_of_free
      (s := { s with host := .accept w :: (List.replicate n HostMove.idle ++ .wait :: rest) }) rfl hb
  have accepted : (s.accept w).dropPulses = s.accept w := rfl
  have completing : step { s.accept w with host := .wait :: rest } =
      ({ s.accept w with host := rest } : State).completeInFlight :=
    step_of_wait_of_busy (a := { s.accept w with host := .wait :: rest }) rfl rfl hpe hkg
  have issuing : step { s with host := .issue w :: rest } = ({ s with host := rest } : State).transact w :=
    step_of_issue_of_free (s := { s with host := .issue w :: rest }) rfl hb
  rw [run_succ_of_step accepting (n + 1), run_idles accepted n 1, run_one, completing, issuing]
  rfl

end Sys2Proof.Machine
end

section
/-! What a step does to the host's view (30 R78 to R80; 70 R251, R255, R258): it completes a command, resets the
core, or holds the registers that the host sees. -/

namespace Sys2Proof.Machine

/-! ### Steps that complete a command -/

/-- With a command in flight, the wait ends with the port free and the pulse up (R254). -/
theorem settle_completes {s t : State} (hb : s.BUSY = true) (h : s.settle = .next t) :
    t.BUSY = false ∧ t.rspValid = true :=
  completeInFlight_completes ((settle_of_busy hb).symm.trans h)

/-- A word presented ends a command, its own or the one in flight (R253, R254). -/
theorem present_completes {w : BitVec 32} {s again t : State} (ha : again.BUSY = s.BUSY)
    (h : s.present w again = .next t) : t.BUSY = false ∧ t.rspValid = true := by
  cases hb : s.BUSY
  · exact completeInFlight_completes ((present_of_free hb w again).symm.trans h)
  · exact settle_completes (ha.trans hb) ((present_of_busy hb w again).symm.trans h)

/-! ### Steps that hold the registers -/

/-- The registers that only a completion or the hardware reset writes are unchanged (R254, R255). -/
structure RegistersHeld (s t : State) : Prop where
  session : SessionKept s t
  kg : t.kg = s.kg
  response : t.response = s.response
  lastErr : t.LAST_ERR = s.LAST_ERR
  cfg : t.cfg = s.cfg

/-- The next step completes nothing: one of those that `Obligations.StepsWithoutACompletionHold` speaks of. -/
def CompletesNothing (s : State) : Prop :=
  (s.BUSY = false ∧ (s.host = [] ∨ s.host.head? = some .wait ∨ ∃ w, s.host.head? = some (.accept w))) ∨
    s.host.head? = some .idle ∨ (∃ p, s.host.head? = some (.drive p)) ∨
    (∃ x R, s.host.head? = some (.peStart x R) ∨ s.host.head? = some (.kgStart x R)) ∨
    (∃ i, s.host.head? = some (.op i) ∧ i.isPort = true)

theorem CompletesNothing.registersHeld {s t : State} (hs : CompletesNothing s) (h : step s = .next t) :
    RegistersHeld s t := by
  obtain ⟨u, hu, session, kg, response, lastErr, cfg⟩ := stepsWithoutACompletionHold s hs
  cases hu.symm.trans h
  exact ⟨session, kg, response, lastErr, cfg⟩

/-- A step that may complete something completes a command, but for the hardware reset. -/
theorem completes_of_not_completesNothing {s t : State} (hs : ¬ CompletesNothing s)
    (hrst : s.host.head? ≠ some .rst) (h : step s = .next t) : t.BUSY = false ∧ t.rspValid = true := by
  cases hh : s.host with
  | nil =>
    have hb : s.BUSY = true := Bool.eq_true_of_not_eq_false fun hb => hs (.inl ⟨hb, .inl hh⟩)
    exact settle_completes hb ((step_of_nil hh).symm.trans h)
  | cons m rest =>
    have hm : ({ s with host := rest } : State).move m s = .next t := (step_of_cons hh).symm.trans h
    simp only [CompletesNothing, hh, List.head?_cons] at hs hrst
    cases m with
    | issue w => exact present_completes (s := { s with host := rest }) (again := s) rfl hm
    | accept w =>
      have hb : s.BUSY = true := by simpa using hs
      exact settle_completes hb ((presentAccept_of_busy (s := { s with host := rest }) hb w s).symm.trans hm)
    | op i =>
      have hi : i.isCommand = true := by simpa [Instr.isPort] using hs
      obtain ⟨w, hw⟩ := Option.isSome_iff_exists.mp ((encode_isSome i).trans hi)
      exact present_completes (s := { s with host := rest }) (again := s) rfl
        ((perform_of_encode hw { s with host := rest } s).symm.trans hm)
    | wait =>
      have hb : s.BUSY = true := by simpa using hs
      exact settle_completes (s := { s with host := rest }) hb hm
    | drive | peStart | kgStart | idle => simp at hs
    | rst => exact absurd rfl hrst

/-- Everything a step can do but the hardware reset: hold the registers, or complete a command. -/
theorem step_holds_or_completes {s t : State} (hrst : s.host.head? ≠ some .rst) (h : step s = .next t) :
    RegistersHeld s t ∨ (t.BUSY = false ∧ t.rspValid = true) := by
  by_cases hs : CompletesNothing s
  · exact .inl (hs.registersHeld h)
  · exact .inr (completes_of_not_completesNothing hs hrst h)

/-- Settles O12: a completion raises the pulse, and driven ports complete nothing. -/
theorem responseIsHeld : Obligations.ResponseIsHeld := by
  unfold Obligations.ResponseIsHeld
  intro s t h hrst hcase
  have held : RegistersHeld s t := by
    obtain hlow | hdrive := hcase
    · obtain held | ⟨-, hup⟩ := step_holds_or_completes hrst h
      · exact held
      · exact absurd (hlow.symm.trans hup) (by decide)
    · exact CompletesNothing.registersHeld (.inr (.inr (.inl hdrive))) h
  exact ⟨held.response, held.lastErr, held.session, held.kg⟩

/-! ### The views while a command is in flight, and after reset -/

theorem append_bit_or_one {n : Nat} (x : BitVec n) (b : Bool) : x ++ bit true = (x ++ bit b) ||| 1 := by
  apply BitVec.eq_of_getLsbD_eq
  intro i hi
  rw [BitVec.getLsbD_or, BitVec.getLsbD_append, BitVec.getLsbD_append]
  cases i with
  | zero => simp [bit]
  | succ k => simp

/-- With the registers held and a command in flight, `status` differs in bit 0 alone (R78, R258). -/
theorem RegistersHeld.status_of_busy {s t : State} (h : RegistersHeld s t) (hb : t.BUSY = true) :
    t.status = s.status ||| 1 := by
  unfold State.status
  rw [h.lastErr, h.session.CUR, h.cfg, h.session.EXH, h.session.VALID, hb]
  exact append_bit_or_one _ s.BUSY

theorem RegistersHeld.ctrOut {s t : State} (h : RegistersHeld s t) : t.ctrOut = s.ctrOut :=
  congrArg ctrOf h.session.S

/-- A step that ends with a command in flight holds the registers: a completion and the hardware reset free the port. -/
theorem registersHeld_of_busy {s t : State} (h : step s = .next t) (hb : t.BUSY = true) : RegistersHeld s t := by
  have hrst : s.host.head? ≠ some .rst := by
    intro hhead
    obtain ⟨rest, hh⟩ := List.head?_eq_some_iff.mp hhead
    cases (step_of_rst hh).symm.trans h
    cases hb
  obtain held | ⟨hfree, -⟩ := step_holds_or_completes hrst h
  · exact held
  · exact absurd (hfree.symm.trans hb) (by decide)

/-- A step that ends with a command in flight shows the host what it saw before, but for `BUSY` (R258). -/
theorem views_of_busy {s t : State} (h : step s = .next t) (hb : t.BUSY = true) :
    t.status = s.status ||| 1 ∧ t.ctrOut = s.ctrOut := by
  have held := registersHeld_of_busy h hb
  exact ⟨held.status_of_busy hb, held.ctrOut⟩

/-- Settles O11: such a step holds the registers that `status` and `ctr_out` show; the accepting edge and the idle edge
are two of them. -/
theorem statusWhileBusyIsTheOldOne : Obligations.StatusWhileBusyIsTheOldOne := by
  unfold Obligations.StatusWhileBusyIsTheOldOne
  refine ⟨fun s t => views_of_busy, fun s w rest hb => ?_⟩
  have accepting := step_of_accept_of_free (s := { s with host := .accept w :: .idle :: rest }) rfl hb
  have idling := step_of_idle (s := ({ s with host := .idle :: rest } : State).accept w) rfl
  obtain ⟨accepted, ctrAccepted⟩ := views_of_busy accepting rfl
  obtain ⟨idled, ctrIdled⟩ := views_of_busy idling rfl
  rw [accepted, BitVec.or_assoc, BitVec.or_self] at idled
  exact ⟨_, _, accepting, idling, rfl, rfl, accepted, idled, ctrAccepted, ctrIdled.trans ctrAccepted⟩

/-- The status word after reset shows the hook alone (R78, R251). -/
theorem status_resetWith (c : Config) :
    (State.resetWith c).status = if c.hasTestHook then 0x00000008 else 0x00000000 := by
  obtain ⟨hook⟩ := c
  cases hook <;> rfl

/-- Settles O15: the reset values, read through each view. -/
theorem hostViewAfterReset : Obligations.HostViewAfterReset := by
  unfold Obligations.HostViewAfterReset
  exact fun c => ⟨rfl, ctrOf_zeroWords, rfl, status_resetWith c⟩

end Sys2Proof.Machine
end
